-- ==== Sys2Proof/Word.lean ====
section
/-! DEFINITION. Word.lean: the words, addresses and names of the part's geometry (spec/01, R1 to R8). -/

namespace Sys2Proof

/-- A byte of the management port or of a line (R2, R179). -/
abbrev Byte := BitVec 8

/-- The 64 data bytes of a line, byte `b` at bits `8b` to `8b + 7`, so that word `w` is bits `64w` to `64w + 63` and
data bit d(8j + i) of it is bit i of byte 8w + j (R2). -/
abbrev LineData := BitVec 512

/-- The 576 stored bits of a line, word `w` at bits `72w` to `72w + 71`, its position `p` at bit `72w + p` (R1, R16). -/
abbrev StoredLine := BitVec 576

/-- The 64 data bits d0 to d63 of one word (R2). -/
abbrev DataWord := BitVec 64

/-- The 72 stored bits of one word, position `p` at bit `p` (R16). -/
abbrev StoredWord := BitVec 72

/-- A host line number, 0 to 268,435,455 (R3). -/
abbrev LineAddr := Fin 268435456

/-- The identifier of an outstanding host request, 0 to 31 (R36). -/
abbrev Tag := Fin 32

abbrev Rank := Fin 2
abbrev Bank := Fin 16
abbrev HostRow := Fin 65536

/-- A bank position, rank × 16 + bank (R6). -/
abbrev BankPos := Fin 32

/-- A spare index within a bank position (R7). -/
abbrev SpareIdx := Fin 32

/-- The position of a line within its row (R1). -/
abbrev Column := Fin 128

/-- A row key: it names one host row (R5). -/
structure RowKey where
  rank : Rank
  bank : Bank
  row  : HostRow
  deriving DecidableEq, Repr

/-- A cell: one stored bit of one line of a row, relative to the row (R8). -/
structure Cell where
  column   : Column
  word     : Fin 8
  position : Fin 72
  deriving DecidableEq, Repr

/-- A spare, named by its bank position and spare index (R7). -/
structure SpareName where
  pos : BankPos
  idx : SpareIdx
  deriving DecidableEq, Repr

/-- Where a row's line lives: the original host row, or a spare of the row's bank position (R7, R10). -/
inductive Place where
  | hostRow
  | spare (idx : SpareIdx)
  deriving DecidableEq, Repr

end Sys2Proof
end

