-- ==== Sys2Proof/Syntax.lean ====
section
/-! DEFINITION. Syntax.lean: the commands of the part, one constructor per row of spec/opcode_table.json. -/

namespace Sys2Proof

/-- What makes a frame from the memory controller bad, other than a RESET_END in UP (R37). -/
inductive BadFrameCause where
  /-- the frame check does not match -/
  | frameCheck
  /-- the kind is unassigned, or is one that the part sends -/
  | kind (k : BitVec 4)
  /-- the length does not match the fields of the kind -/
  | length
  deriving DecidableEq, Repr

/-- The commands. Operands:

- `line`: the line whose order is meant. Only the operation at the head of a line order is performed (R41), so the
  line names the operation.
- `damage`: the bits by which what the device delivers differs from what the line holds (log 8).
- `args`, `tail`: the argument bytes of an SPI command transaction, and how many bits of a further byte were received
  before chip-select was deasserted; the transaction is complete when `tail` is 0 (R179).
- `prompt`: the owning block takes the command up at once; otherwise it awaits COMMAND_TAKE_UP (R181, log 4). -/
inductive Instr where
  -- reset and load
  | powerOnReset (powerLost holdAsserted : Bool)
  | loadRepairSlot
  | loadBadSpareSlot
  | loadCompletion
  -- the gate's pins and the timers
  | holdNAssertion
  | holdNDeassertion
  | holdTimerExpiry
  | dwellTimerExpiry
  | paceTimerExpiry
  -- frames of the front link
  | resetBegin
  | resetEnd
  | badFrame (cause : BadFrameCause)
  | rd (tag : Tag) (line : LineAddr)
  | wr (tag : Tag) (line : LineAddr) (data : LineData)
  | mwr (tag : Tag) (line : LineAddr) (data : LineData) (enables : BitVec 64)
  -- host requests performed
  | rdIssue (line : LineAddr)
  | rdMediaReadComplete (line : LineAddr) (damage : StoredLine)
  | wrIssue (line : LineAddr)
  | wrWriteComplete (line : LineAddr)
  | mwrReadHalfIssue (line : LineAddr)
  | mwrReadHalfComplete (line : LineAddr) (damage : StoredLine)
  | mwrWriteHalfComplete (line : LineAddr)
  -- background operations
  | backgroundGrant
  | writebackPerform
  | writebackComplete
  | verifyReadPerform
  | verifyReadComplete (damage : StoredLine)
  | patrolLineReadPerform
  | patrolLineReadComplete (damage : StoredLine)
  -- migration steps
  | copyReadPerform
  | copyReadComplete (damage : StoredLine)
  | copyWriteComplete
  | checkReadPerform
  | checkReadComplete (damage : StoredLine)
  -- the repair store
  | persistProgramComplete (verifyOk : Bool)
  -- the management port
  | responseTransaction (bytes : Nat) (tail : Fin 8)
  | unassignedCommand (code : Byte) (args : List Byte) (tail : Fin 8)
  | status (args : List Byte) (tail : Fin 8) (prompt : Bool)
  | findRecord (args : List Byte) (tail : Fin 8) (prompt : Bool)
  | readRecord (args : List Byte) (tail : Fin 8) (prompt : Bool)
  | watchRow (args : List Byte) (tail : Fin 8) (prompt : Bool)
  | pin (args : List Byte) (tail : Fin 8) (prompt : Bool)
  | unpin (args : List Byte) (tail : Fin 8) (prompt : Bool)
  | release (args : List Byte) (tail : Fin 8) (prompt : Bool)
  | forceSpare (args : List Byte) (tail : Fin 8) (prompt : Bool)
  | abortMigration (args : List Byte) (tail : Fin 8) (prompt : Bool)
  | spareMap (args : List Byte) (tail : Fin 8) (prompt : Bool)
  | persist (args : List Byte) (tail : Fin 8) (prompt : Bool)
  | readStore (args : List Byte) (tail : Fin 8) (prompt : Bool)
  | setParam (args : List Byte) (tail : Fin 8) (prompt : Bool)
  | getParam (args : List Byte) (tail : Fin 8) (prompt : Bool)
  | readCounters (args : List Byte) (tail : Fin 8) (prompt : Bool)
  | clearCounters (args : List Byte) (tail : Fin 8) (prompt : Bool)
  | ackAttention (args : List Byte) (tail : Fin 8) (prompt : Bool)
  | setAttentionMask (args : List Byte) (tail : Fin 8) (prompt : Bool)
  | clear (args : List Byte) (tail : Fin 8)
  | commandTakeUp
  deriving DecidableEq, Repr

end Sys2Proof
end

