-- ==== Sys2Proof/Decode.lean ====
section
/-! DEFINITION. Decode.lean: the command that a word spells by the bits of spec/opcode_table.json. -/

namespace Sys2Proof

/-- No row of the table gives bits (spec/98_reader.md: "n_rows_with_fixed": 0, "n_rows_with_fields": 0), so no word spells
a command. Argument bytes of the management commands are operands of `Instr`, read in Machine/Operands.lean. -/
def decodeTableWord (_nbits _w : Nat) : Option Instr := none

end Sys2Proof
end

