-- ==== Sys2Proof/Config.lean ====
section
/-! DEFINITION. Config.lean: the free values. Each is an opaque constant: no proof can see what it is, so a claim holds
whatever it is. -/

namespace Sys2Proof

/-- What a physical line holds that the part has not written since power was last applied: "whatever its devices hold"
(R9). The first argument counts the power losses, the second is the physical line number. Log 9. -/
opaque Config.powerOnLine : Nat → Nat → StoredLine

/-- Which bits of a line are new when RESET_N cut off its write: a one selects the new stored bit, a zero the old one
(R9, "the old stored bits, the new stored bits, or a mixture"). The argument counts the writes cut off. Log 10. -/
opaque Config.tornBits : Nat → StoredLine

/-- The frame check over the other fields of a frame, in the order in which they are sent: a 16-bit cyclic check whose
polynomial is not given (R35). Log 17. -/
opaque Config.frameCheck : List Bool → BitVec 16

end Sys2Proof
end

