-- ==== Sys2Proof/Machine/State.lean ====
section
/-! DEFINITION. Machine/State.lean: everything the spec gives the part to hold, block by block (spec/00_scope.md 4.1),
as plain data; the reasons a step can stop; and the state after reset. -/

namespace Sys2Proof.Machine

/-! ### Lists kept by number -/

/-- Values kept by number, the numbers strictly rising (`Sparse.wf`). A number that is not listed has no value. -/
abbrev Sparse (α : Type) := List (Nat × α)

/-- The one canonical form: the numbers strictly rise, so that equal contents are equal lists. -/
abbrev Sparse.wf {α : Type} (m : Sparse α) : Prop := (m.map Prod.fst).Pairwise (· < ·)

/-! ### The line codec's terms -/

/-- What a media write puts on a line: data, encoded afresh (R19), or the poison mark (R23). Also the kind and data of a
writeback entry (R100). -/
inductive LineContent where
  | data (d : LineData)
  | mark
  deriving DecidableEq, Repr

/-- The outcome of a line read (R25). `uncorrectable` is a fresh uncorrectable (R26). -/
inductive LineOutcome where
  | clean
  | corrected
  | uncorrectable
  | mark
  deriving DecidableEq, Repr

/-! ### Front link -/

/-- R30. -/
inductive LinkState where
  | down
  | up
  | fault
  deriving DecidableEq, Repr

structure Link where
  state             : LinkState
  /-- a RESET_BEGIN has arrived and its RESET_END has not (R32) -/
  resetInProgress   : Bool
  /-- a completed link reset waits for the load (R33) -/
  completionPending : Bool
  deriving DecidableEq, Repr

/-- The status of a read return (R35). -/
inductive ReadStatus where
  | clean
  | corrected
  | poisoned
  deriving DecidableEq, Repr

/-- The status of a write return (R35). -/
inductive WriteStatus where
  | done
  | poisonKept
  deriving DecidableEq, Repr

/-- A frame sent by the part (R35, R51). -/
inductive OutFrame where
  | rret (tag : Tag) (status : ReadStatus) (data : LineData)
  | wret (tag : Tag) (status : WriteStatus)
  | ready
  deriving DecidableEq, Repr

/-- The operations that join a line order (R40). -/
inductive OpKind where
  | rd
  | wr (data : LineData)
  | mwr (data : LineData) (enables : BitVec 64)
  | writeback (content : LineContent)
  | verify
  | patrol
  | copyRead
  | copyWrite
  | checkRead
  deriving DecidableEq, Repr

/-- How far an operation has come. `stamp` numbers the media operations in the order of their issue, which the DRAM side
keeps on one physical line (R147). -/
inductive Stage where
  /-- joined, not yet performed -/
  | waiting
  /-- its media read is in flight; `viaDest` when routing gave a migration's destination (R12) -/
  | reading (place : Place) (viaDest : Bool) (stamp : Nat)
  /-- re-served: its second media read is in flight (R45) -/
  | rereading (place : Place) (stamp : Nat)
  /-- its media writes are in flight, to every target that routing gave (R13, R15) -/
  | writing (targets : List Place) (content : LineContent) (stamp : Nat)
  deriving DecidableEq, Repr

/-- An operation of a line order (R40). -/
structure Op where
  line     : LineAddr
  kind     : OpKind
  /-- the tag it holds: present for an outstanding host request, absent for an orphan (R34) and for the part's own
  operations -/
  tag      : Option Tag
  stage    : Stage
  /-- its entry of the open-read list, with the overtaken flag; absent when it has none (R102) -/
  openRead : Option Bool
  deriving DecidableEq, Repr

/-! ### Fault table -/

/-- R54. -/
inductive RecordState where
  | watch
  | suspect
  | queued
  | migrating
  | spared
  | condemned
  deriving DecidableEq, Repr

/-- R56. -/
inductive Origin where
  | hostRead
  | maskedWrite
  | patrol
  | verify
  | copy
  | store
  | command
  deriving DecidableEq, Repr

/-- The cell a record is watching, with its repeat count, 1 to 15 (R53, R86). -/
structure Signature where
  cell    : Cell
  repeats : Nat
  deriving DecidableEq, Repr

inductive MigPhase where
  | copy
  | check
  deriving DecidableEq, Repr

/-- The migration sub-state (R53). -/
structure MigSub where
  phase       : MigPhase
  /-- 0 to 128 -/
  copyCursor  : Nat
  /-- 0 to 128 -/
  checkCursor : Nat
  /-- 1 to 3 -/
  attempt     : Nat
  deriving DecidableEq, Repr

/-- A record of the Fault Table (R53). `slot` is where it stands (R57). -/
structure Record where
  slot          : Fin 256
  key           : RowKey
  state         : RecordState
  /-- 0 to 4,095 -/
  weight        : Nat
  /-- 0 to 65,535 -/
  corrections   : Nat
  signature     : Option Signature
  homeSpare     : Option SpareIdx
  destSpare     : Option SpareIdx
  migration     : Option MigSub
  urgent        : Bool
  /-- at most 4 distinct columns, in order of addition -/
  poison        : List Column
  overflow      : Bool
  pinned        : Bool
  /-- auto-spare blocked -/
  blocked       : Bool
  persisted     : Bool
  persistWanted : Bool
  origin        : Origin
  deriving DecidableEq, Repr

/-! ### Queues -/

/-- An entry of the Writeback Queue (R100). -/
structure WbEntry where
  line    : LineAddr
  content : LineContent
  deriving DecidableEq, Repr

/-- The migration queue: its two sections, each in order of joining (R149). -/
structure MigQueue where
  urgent : List RowKey
  normal : List RowKey
  deriving DecidableEq, Repr

/-! ### Patrol, quiet, HOLD, arbiter -/

/-- The Patrol Engine (R119). The cursor is `row` and `pos`. -/
structure Patrol where
  row        : HostRow
  pos        : BankPos
  passNumber : BitVec 16
  /-- 0 to 64 -/
  credits    : Nat
  /-- the row in progress: the next line of it to be issued -/
  current    : Option Column
  /-- stopped, or running with this interval in µs -/
  paceTimer  : Option Nat
  deriving DecidableEq, Repr

/-- R134. -/
inductive QuietState where
  | notQuiet
  | settling
  | quiet
  deriving DecidableEq, Repr

structure Quiet where
  state         : QuietState
  /-- stopped, or running with the dwell in µs that it started for -/
  dwellTimer    : Option Nat
  lastOccupancy : Nat
  deriving DecidableEq, Repr

/-- R137. HOLD_N is asserted exactly in `inForce` and `expired`. -/
inductive HoldState where
  | idle
  | inForce
  | expired
  deriving DecidableEq, Repr

structure Hold where
  state : HoldState
  /-- stopped, or running with the limit in ms that it started for -/
  timer : Option Nat
  deriving DecidableEq, Repr

/-- What holds the background issue slot (R139). -/
inductive Holder where
  | writeback (line : LineAddr)
  | verify (line : LineAddr)
  | patrol (line : LineAddr)
  | migration
  deriving DecidableEq, Repr

/-! ### Spare pool and migration engine -/

/-- The state of a spare (R145). -/
inductive SpareState where
  | free
  | assigned
  | burned
  deriving DecidableEq, Repr

/-- The state of a spare that is listed in the pool; a spare that is not listed is FREE. -/
inductive SpareUse where
  | assigned
  | burned
  deriving DecidableEq, Repr

/-- The progress of a migration step (R152, R155, R156). -/
inductive StepStage where
  /-- the copy read is issued -/
  | copyRead
  /-- the copy read has completed and found `content`; the copy write is cancelled and the column waits for the
  cancelling host request -/
  | awaitHost (content : LineContent)
  /-- the copy write is issued -/
  | copyWrite
  /-- the check read is issued -/
  | checkRead
  deriving DecidableEq, Repr

/-- The migration step in flight, or the leftover step of an ended attempt (R150, R160). -/
structure MigStep where
  line     : LineAddr
  dest     : SpareIdx
  stage    : StepStage
  leftover : Bool
  deriving DecidableEq, Repr

structure Engine where
  /-- the marked-column set, in rising order (R150, R157) -/
  marked : List Column
  step   : Option MigStep
  deriving DecidableEq, Repr

/-! ### Repair store -/

/-- The item of a VALID slot (R167). -/
inductive StoreItem where
  | repair (key : RowKey) (spare : SpareIdx)
  | badSpare (name : SpareName)
  deriving DecidableEq, Repr

inductive StoreSlot where
  | empty
  | valid (item : StoreItem)
  | burned
  deriving DecidableEq, Repr

/-- A program in flight: its slot, its item, and whether this is the item's first, second or third slot (R172, R173). -/
structure Program where
  slot : Fin 64
  item : StoreItem
  tries : Nat
  deriving DecidableEq, Repr

/-- The persist engine: its bad-spare list (R171), and the program in flight; idle when there is none. -/
structure Persist where
  badSpares : List SpareName
  program   : Option Program
  deriving DecidableEq, Repr

/-- R168. -/
inductive Phase where
  | loading
  | running
  deriving DecidableEq, Repr

/-! ### Management port -/

/-- The fourteen parameters (R185). -/
inductive ParamId where
  | wHost
  | wPatrol
  | bonus
  | tSuspect
  | tSpare
  | stuck
  | decayShift
  | period
  | bankMask
  | urgentThreshold
  | quietThreshold
  | dwell
  | holdLimit
  | autoPersist
  deriving DecidableEq, Repr

structure Params where
  wHost           : Nat
  wPatrol         : Nat
  bonus           : Nat
  tSuspect        : Nat
  tSpare          : Nat
  stuck           : Nat
  decayShift      : Nat
  /-- minutes -/
  period          : Nat
  /-- bit p includes bank position p -/
  bankMask        : BitVec 32
  urgentThreshold : Nat
  quietThreshold  : Nat
  /-- µs -/
  dwell           : Nat
  /-- ms -/
  holdLimit       : Nat
  autoPersist     : Bool
  deriving DecidableEq, Repr

/-- The twelve counters by name (R189). -/
inductive Counter where
  | hostCorrected
  | patrolCorrected
  | uncorrectable
  | poisonReads
  | wbSuperseded
  | wbDropped
  | verifyDropped
  | tableOverflow
  | patrolOverrun
  | migrationsDone
  | sparesBurned
  | holdExpired
  deriving DecidableEq, Repr

structure Counters where
  hostCorrected   : Nat
  patrolCorrected : Nat
  uncorrectable   : Nat
  poisonReads     : Nat
  wbSuperseded    : Nat
  wbDropped       : Nat
  verifyDropped   : Nat
  tableOverflow   : Nat
  patrolOverrun   : Nat
  migrationsDone  : Nat
  sparesBurned    : Nat
  holdExpired     : Nat
  deriving DecidableEq, Repr

/-- The ten attention flags by name (R182, R192). -/
inductive AttnFlag where
  | uncorrectable
  | spareDone
  | condemned
  | tableOverflow
  | sparesLow
  | patrolLate
  | holdExpired
  | storeFail
  | storeFull
  | linkFault
  deriving DecidableEq, Repr

/-- The attention flags and their enables, attention bit n at bit n (R182, R192, R193). -/
structure Attention where
  flags   : BitVec 10
  enables : BitVec 10
  deriving DecidableEq, Repr

/-- The status codes (R182). -/
inductive Status where
  | ok
  | adjusted
  | pending
  | badCommand
  | badArgument
  | notFound
  | wrongState
  | tableFull
  | busy
  deriving DecidableEq, Repr

/-- A command that has passed the checks of R181, with its arguments read (CLEAR never awaits take-up: log 5). -/
inductive PortCommand where
  | status
  | findRecord (key : RowKey)
  | readRecord (slot : Fin 256)
  | watchRow (key : RowKey)
  | pin (key : RowKey)
  | unpin (key : RowKey)
  | release (key : RowKey)
  | forceSpare (key : RowKey)
  | abortMigration (key : RowKey)
  | spareMap (pos : BankPos)
  | persist (key : RowKey)
  | readStore (slot : Fin 64)
  | setParam (id : ParamId) (value : BitVec 32)
  | getParam (id : ParamId)
  | readCounters
  | clearCounters
  | ackAttention (flags : BitVec 10)
  | setAttentionMask (enables : BitVec 10)
  deriving DecidableEq, Repr

/-- The held response: its status byte and data bytes (R180). `isReport` when it is the answer OK of a STATUS (R184). -/
structure Held where
  status   : Status
  data     : List Byte
  isReport : Bool
  deriving DecidableEq, Repr

/-- A command dispatched and not yet taken up; `discarded` when a later command or CLEAR has discarded its response
(R180, R181, R194). -/
structure Awaiting where
  command   : PortCommand
  discarded : Bool
  deriving DecidableEq, Repr

structure Port where
  held     : Option Held
  awaiting : Option Awaiting
  /-- the restart flag (R184) -/
  restart  : Bool
  /-- the bits that the last transaction shifted out, the first first (the model's own, logs 16 and 21) -/
  spiOut   : List Bool
  deriving DecidableEq, Repr

/-! ### The DRAM -/

/-- The stored lines, by physical line number. A line that is not listed has not been written by the part since power was
last applied. -/
abbrev Memory := Sparse StoredLine

/-- The canonical form of the media. -/
abbrev Memory.wf (m : Memory) : Prop := Sparse.wf m

structure Media where
  lines       : Memory
  /-- the model's own count of power losses (log 9) -/
  powerCycles : Nat
  /-- the model's own count of writes cut off by RESET_N (log 10) -/
  torn        : Nat
  deriving DecidableEq, Repr

/-! ### The state -/

/-- The part. Each field belongs to the block named. -/
structure State where
  /-- Repair Store: the phase of the part (R168) -/
  phase       : Phase
  /-- Repair Store: the first slot that the load has not processed, 0 to 64 (R168) -/
  loadNext    : Nat
  /-- Front Link Interface (R30 to R33) -/
  link        : Link
  /-- Front Link Interface: the line orders, in order of joining; the order of a line is the sublist of its operations
  (R40). The outstanding tags (R38) and the open-read list (R102) are fields of the operations. -/
  ops         : List Op
  /-- the number of media operations issued (the model's own, log 14) -/
  stamps      : Nat
  /-- Front Link Interface: the frames sent, oldest first (the model's own, log 16) -/
  linkOut     : List OutFrame
  /-- Fault Table: the records in order of creation, which is the age list (R57, R58) -/
  table       : List Record
  /-- Writeback Queue, the head first (R100) -/
  wbQueue     : List WbEntry
  /-- Verify Queue, the head first (R110) -/
  verifyQueue : List LineAddr
  /-- Patrol Engine (R119) -/
  patrol      : Patrol
  /-- Quiet Monitor (R134) -/
  quiet       : Quiet
  /-- Hold Control (R137) -/
  hold        : Hold
  /-- Background Arbiter: the background issue slot, free when absent (R139) -/
  slot        : Option Holder
  /-- Spare Pool: the spares that are not FREE, by bank position × 32 + spare index (R145) -/
  spares      : Sparse SpareUse
  /-- Migration Engine: the migration queue (R149) -/
  queue       : MigQueue
  /-- Migration Engine (R150) -/
  engine      : Engine
  /-- Repair Store: the 64 slots (R167) -/
  store       : Vector StoreSlot 64
  /-- Repair Store: the persist engine (R171, R172) -/
  persist     : Persist
  /-- Management Port (R185) -/
  params      : Params
  /-- Management Port (R189) -/
  counters    : Counters
  /-- Management Port (R192, R193) -/
  attn        : Attention
  /-- Management Port (R180, R181, R184) -/
  port        : Port
  /-- the module's DRAM -/
  media       : Media
  /-- the commands that wait, the front first (the model's own) -/
  pending     : List Instr
  deriving DecidableEq, Repr

/-- The part has no fault that stops it: every error the spec names is state (INVENTORY.md, Faults). -/
inductive Fault where
  deriving DecidableEq, Repr

inductive Refusal where
  /-- raised by an arm of `exec` for a command that has no meaning yet; safe -/
  | notModelled (mnemonic : String)
  deriving DecidableEq, Repr

/-! ### Updates, one per field (their lemmas are in Laws/State.lean) -/

def State.setPhase (s : State) (v : Phase) : State := { s with phase := v }
def State.setLoadNext (s : State) (v : Nat) : State := { s with loadNext := v }
def State.setLink (s : State) (v : Link) : State := { s with link := v }
def State.setOps (s : State) (v : List Op) : State := { s with ops := v }
def State.setStamps (s : State) (v : Nat) : State := { s with stamps := v }
def State.setLinkOut (s : State) (v : List OutFrame) : State := { s with linkOut := v }
def State.setTable (s : State) (v : List Record) : State := { s with table := v }
def State.setWbQueue (s : State) (v : List WbEntry) : State := { s with wbQueue := v }
def State.setVerifyQueue (s : State) (v : List LineAddr) : State := { s with verifyQueue := v }
def State.setPatrol (s : State) (v : Patrol) : State := { s with patrol := v }
def State.setQuiet (s : State) (v : Quiet) : State := { s with quiet := v }
def State.setHold (s : State) (v : Hold) : State := { s with hold := v }
def State.setSlot (s : State) (v : Option Holder) : State := { s with slot := v }
def State.setSpares (s : State) (v : Sparse SpareUse) : State := { s with spares := v }
def State.setQueue (s : State) (v : MigQueue) : State := { s with queue := v }
def State.setEngine (s : State) (v : Engine) : State := { s with engine := v }
def State.setStore (s : State) (v : Vector StoreSlot 64) : State := { s with store := v }
def State.setPersist (s : State) (v : Persist) : State := { s with persist := v }
def State.setParams (s : State) (v : Params) : State := { s with params := v }
def State.setCounters (s : State) (v : Counters) : State := { s with counters := v }
def State.setAttn (s : State) (v : Attention) : State := { s with attn := v }
def State.setPort (s : State) (v : Port) : State := { s with port := v }
def State.setMedia (s : State) (v : Media) : State := { s with media := v }
def State.setPending (s : State) (v : List Instr) : State := { s with pending := v }

/-! ### The state after reset -/

/-- The defaults of the parameter table (R185, R188). -/
def Params.default : Params where
  wHost := 64
  wPatrol := 32
  bonus := 256
  tSuspect := 256
  tSpare := 1024
  stuck := 3
  decayShift := 3
  period := 720
  bankMask := 0xFFFFFFFF
  urgentThreshold := 32
  quietThreshold := 2
  dwell := 4
  holdLimit := 50
  autoPersist := true

/-- Every counter at 0 (R190, R191). -/
def Counters.zero : Counters := ⟨0, 0, 0, 0, 0, 0, 0, 0, 0, 0, 0, 0⟩

/-- The part right after power-on/RESET_N: every block at the value its chapter states (R31, R80, R118, R133, R134, R137,
R139, R145, R166, R168, R176, R188, R190, R193, R195). The load has processed nothing. Where the rules leave a choice:
HOLD_N is sampled deasserted (log 11) and the repair store has never been programmed (log 12). -/
def State.reset : State where
  phase := .loading
  loadNext := 0
  link := ⟨.down, false, false⟩
  ops := []
  stamps := 0
  linkOut := []
  table := []
  wbQueue := []
  verifyQueue := []
  patrol := ⟨0, 0, 0, 0, none, none⟩
  quiet := ⟨.settling, some 4, 0⟩
  hold := ⟨.idle, none⟩
  slot := none
  spares := []
  queue := ⟨[], []⟩
  engine := ⟨[], none⟩
  store := Vector.replicate 64 .empty
  persist := ⟨[], none⟩
  params := Params.default
  counters := Counters.zero
  attn := ⟨0, BitVec.allOnes 10⟩
  port := ⟨none, none, false, []⟩
  media := ⟨[], 0, 0⟩
  pending := []

end Sys2Proof.Machine
end

