-- ==== Sys2Proof/Machine/Codec.lean ====
section
/-! DEFINITION. Machine/Codec.lean: the Line Codec (spec/02, R16 to R28). It keeps no state (R29). -/

namespace Sys2Proof.Machine

/-! ### Bits -/

/-- The number below 2^n whose bit `i` is `f i`. -/
def natOfBits (f : Nat → Bool) : Nat → Nat
  | 0 => 0
  | n + 1 => natOfBits f n + (if f n then 2 ^ n else 0)

/-- The bit vector whose bit `i` is `f i`. -/
def ofBits (n : Nat) (f : Nat → Bool) : BitVec n := BitVec.ofNat n (natOfBits f n)

/-- The exclusive OR of `f i` over a list. -/
def xorOver (l : List Nat) (f : Nat → Bool) : Bool := l.foldl (fun acc i => Bool.xor acc (f i)) false

/-! ### The stored word -/

/-- Position 2^j of the seven check bits, j from 0 to 6 (R16). -/
def checkPositions : List Nat := [1, 2, 4, 8, 16, 32, 64]

/-- The position of data bit d`i` (R16, the table). -/
def dataPos (i : Nat) : Nat :=
  if i < 1 then i + 3
  else if i < 4 then i + 4
  else if i < 11 then i + 5
  else if i < 26 then i + 6
  else if i < 57 then i + 7
  else i + 8

/-- The check bit at position 2^j: the exclusive OR of the data bits whose position number has bit j set (R17). -/
def checkBit (d : DataWord) (j : Nat) : Bool :=
  xorOver ((List.range 64).filter fun i => (dataPos i).testBit j) fun i => d.getLsbD i

/-- The 64 data bits in their positions, every other position zero (R16). -/
def placeData (d : DataWord) : StoredWord :=
  (List.range 64).foldl (fun w i => if d.getLsbD i then w ||| BitVec.twoPow 72 (dataPos i) else w) 0

/-- The seven check bits in their positions (R17). -/
def placeChecks (d : DataWord) : StoredWord :=
  (List.range 7).foldl (fun w j => if checkBit d j then w ||| BitVec.twoPow 72 (2 ^ j) else w) 0

/-- The exclusive OR of the 72 bits of a word (R18, R20). -/
def parity (w : StoredWord) : Bool := xorOver (List.range 72) fun p => w.getLsbD p

/-- R16 to R18: data, then the check bits, then the overall parity bit that makes the exclusive OR of all 72 bits zero. -/
def encodeWord (d : DataWord) : StoredWord :=
  let w := placeData d ||| placeChecks d
  if parity w then w ||| 1 else w

/-- The syndrome: the exclusive OR of the position numbers of the bits from 1 to 71 that are one (R20). -/
def syndrome (w : StoredWord) : Nat :=
  (List.range 72).foldl (fun acc p => if w.getLsbD p then acc ^^^ p else acc) 0

/-- The data bits of a word as read (R16). -/
def dataOf (w : StoredWord) : DataWord := ofBits 64 fun i => w.getLsbD (dataPos i)

/-- The outcome of a word (R21). -/
inductive WordOutcome where
  | clean
  | corrected (position : Fin 72)
  | uncorrectable
  deriving DecidableEq, Repr

/-- R21. Its first two rows are one here: S from 0 to 71 with P = 1 is a correction at position S. -/
def wordOutcome (w : StoredWord) : WordOutcome :=
  if parity w then
    if h : syndrome w < 72 then .corrected ⟨syndrome w, h⟩ else .uncorrectable
  else if syndrome w = 0 then .clean else .uncorrectable

/-- The data delivered for a word: corrected where the outcome is a correction, as read otherwise (R21). -/
def delivered (w : StoredWord) : DataWord :=
  match wordOutcome w with
  | .corrected p => dataOf (w ^^^ BitVec.twoPow 72 p.val)
  | .clean => dataOf w
  | .uncorrectable => dataOf w

/-- The word shows the mark pattern (R24). -/
def showsMark (w : StoredWord) : Bool := syndrome w == 127 && !parity w

/-! ### Lines -/

/-- Word `w` of a line's data (R2). -/
def dataWord (d : LineData) (w : Nat) : DataWord := d.extractLsb' (64 * w) 64

/-- Word `w` of a stored line. -/
def storedWord (l : StoredLine) (w : Nat) : StoredWord := l.extractLsb' (72 * w) 72

/-- The words of a line as its data (R2). -/
def joinData (f : Nat → DataWord) : LineData :=
  (List.range 8).foldl (fun acc w => acc ||| ((f w).setWidth 512 <<< (64 * w))) 0

/-- The words of a line as its stored bits. -/
def joinStored (f : Nat → StoredWord) : StoredLine :=
  (List.range 8).foldl (fun acc w => acc ||| ((f w).setWidth 576 <<< (72 * w))) 0

/-- A word of the poison mark: zero data, all eight check bits complemented (R23). -/
def markWord : StoredWord := checkPositions.foldl (fun w p => w ||| BitVec.twoPow 72 p) 1

/-- Each word of the data encoded afresh (R19). -/
def encodeLine (d : LineData) : StoredLine := joinStored fun w => encodeWord (dataWord d w)

/-- The poison mark (R23). -/
def markLine : StoredLine := joinStored fun _ => markWord

/-- What a write of the content stores (R19, R23). -/
def LineContent.stored : LineContent → StoredLine
  | .data d => encodeLine d
  | .mark => markLine

def WordOutcome.isUncorrectable : WordOutcome → Bool
  | .uncorrectable => true
  | .corrected _ => false
  | .clean => false

/-- The position of a correction. -/
def WordOutcome.position? : WordOutcome → Option (Fin 72)
  | .corrected p => some p
  | .clean => none
  | .uncorrectable => none

/-- R25: the first condition that holds. -/
def lineOutcome (l : StoredLine) : LineOutcome :=
  let words := (List.range 8).map (storedWord l)
  if words.all showsMark then .mark
  else if words.any fun w => (wordOutcome w).isUncorrectable then .uncorrectable
  else if words.any fun w => (wordOutcome w).position?.isSome then .corrected
  else .clean

/-- The cell of the lowest CORRECTED word (R27). -/
def firstCorrected (c : Column) (l : StoredLine) : Option Cell :=
  (List.finRange 8).findSome? fun w => (wordOutcome (storedWord l w.val)).position?.map fun p => ⟨c, w, p⟩

/-- What the codec hands back for a line read (R28). -/
structure Decode where
  line    : LineAddr
  row     : Place
  outcome : LineOutcome
  data    : LineData
  cell    : Option Cell
  deriving DecidableEq, Repr

/-- The decode of the bits read for a line (R20 to R28). -/
def decodeLine (line : LineAddr) (column : Column) (row : Place) (bits : StoredLine) : Decode where
  line := line
  row := row
  outcome := lineOutcome bits
  data := joinData fun w => delivered (storedWord bits w)
  cell := if lineOutcome bits = .corrected then firstCorrected column bits else none

/-- Bytes `old` with each enabled byte taken from `new`: entry `b` of the enables is data byte `b` (R2, R50). -/
def mergeBytes (old new : LineData) (enables : BitVec 64) : LineData :=
  (List.range 64).foldl
    (fun acc b => if enables.getLsbD b then
        (acc &&& ~~~((255 : LineData) <<< (8 * b))) ||| (((new.extractLsb' (8 * b) 8).setWidth 512) <<< (8 * b))
      else acc) old

end Sys2Proof.Machine
end

