-- ==== Sys2Proof/Machine/Flags.lean ====
section
/-! DEFINITION. Machine/Flags.lean: the attention flags with ATTN_N, and the counters (spec/11, R189 to R193). -/

namespace Sys2Proof.Machine

/-- The attention bit of a flag (R182). -/
def AttnFlag.bit : AttnFlag → Nat
  | .uncorrectable => 0
  | .spareDone => 1
  | .condemned => 2
  | .tableOverflow => 3
  | .sparesLow => 4
  | .patrolLate => 5
  | .holdExpired => 6
  | .storeFail => 7
  | .storeFull => 8
  | .linkFault => 9

/-- Setting a flag that is set leaves it set (R192). -/
def Attention.raise (f : AttnFlag) (a : Attention) : Attention :=
  { a with flags := a.flags ||| BitVec.twoPow 10 f.bit }

/-- The flag is set. -/
def Attention.isSet (a : Attention) (f : AttnFlag) : Bool := a.flags.getLsbD f.bit

/-- ATTN_N is asserted (R193). -/
def Attention.asserted (a : Attention) : Bool := (a.flags &&& a.enables) != 0

def raise (f : AttnFlag) (s : State) : State := s.setAttn (s.attn.raise f)

/-- The state of the ATTN_N output (R193). -/
def State.attnAsserted (s : State) : Bool := s.attn.asserted

/-- The top of a counter (R190). -/
def counterMax : Nat := 4294967295

/-- An increment that saturates (R190). -/
def bumped (n : Nat) : Nat := min (n + 1) counterMax

def Counters.bump (c : Counter) (k : Counters) : Counters :=
  match c with
  | .hostCorrected => { k with hostCorrected := bumped k.hostCorrected }
  | .patrolCorrected => { k with patrolCorrected := bumped k.patrolCorrected }
  | .uncorrectable => { k with uncorrectable := bumped k.uncorrectable }
  | .poisonReads => { k with poisonReads := bumped k.poisonReads }
  | .wbSuperseded => { k with wbSuperseded := bumped k.wbSuperseded }
  | .wbDropped => { k with wbDropped := bumped k.wbDropped }
  | .verifyDropped => { k with verifyDropped := bumped k.verifyDropped }
  | .tableOverflow => { k with tableOverflow := bumped k.tableOverflow }
  | .patrolOverrun => { k with patrolOverrun := bumped k.patrolOverrun }
  | .migrationsDone => { k with migrationsDone := bumped k.migrationsDone }
  | .sparesBurned => { k with sparesBurned := bumped k.sparesBurned }
  | .holdExpired => { k with holdExpired := bumped k.holdExpired }

/-- The counters in the order of READ_COUNTERS (R189). -/
def Counters.inOrder (k : Counters) : List Nat :=
  [k.hostCorrected, k.patrolCorrected, k.uncorrectable, k.poisonReads, k.wbSuperseded, k.wbDropped, k.verifyDropped,
    k.tableOverflow, k.patrolOverrun, k.migrationsDone, k.sparesBurned, k.holdExpired]

def count (c : Counter) (s : State) : State := s.setCounters (s.counters.bump c)

end Sys2Proof.Machine
end

