-- ==== Sys2Proof/Machine/Operands.lean ====
section
/-! DEFINITION. Machine/Operands.lean: the arithmetic of places (spec/01, R3 to R7), and the argument bytes of the
management commands (spec/11, R179, R181, R182). -/

namespace Sys2Proof.Machine

/-! ### Line addresses, row keys, bank positions, physical lines -/

/-- column = L mod 128 (R3). -/
def lineColumn (l : LineAddr) : Column := ⟨l.val % 128, Nat.mod_lt _ (by decide)⟩

/-- bank = (L div 128) mod 16, rank = (L div 2048) mod 2, host row = L div 4096 (R3). -/
def lineKey (l : LineAddr) : RowKey where
  rank := ⟨l.val / 2048 % 2, Nat.mod_lt _ (by decide)⟩
  bank := ⟨l.val / 128 % 16, Nat.mod_lt _ (by decide)⟩
  row := ⟨l.val / 4096, Nat.div_lt_of_lt_mul (by have := l.isLt; omega)⟩

/-- The line address of a column of a row (R4). -/
def lineOf (k : RowKey) (c : Column) : LineAddr :=
  ⟨k.row.val * 4096 + k.rank.val * 2048 + k.bank.val * 128 + c.val, by
    have := k.row.isLt; have := k.rank.isLt; have := k.bank.isLt; have := c.isLt; omega⟩

/-- rank × 16 + bank (R6). -/
def bankPos (r : Rank) (b : Bank) : BankPos := ⟨r.val * 16 + b.val, by have := r.isLt; have := b.isLt; omega⟩

def posRank (p : BankPos) : Rank := ⟨p.val / 16, by have := p.isLt; omega⟩

def posBank (p : BankPos) : Bank := ⟨p.val % 16, Nat.mod_lt _ (by decide)⟩

/-- The bank position of a row. -/
def keyPos (k : RowKey) : BankPos := bankPos k.rank k.bank

/-- The row key of a host row of a bank position. -/
def keyAt (p : BankPos) (row : HostRow) : RowKey := ⟨posRank p, posBank p, row⟩

/-- The physical row, 0 to 65,567, of a place of a row's lines (R7). -/
def physRow (k : RowKey) : Place → Nat
  | .hostRow => k.row.val
  | .spare i => 65536 + i.val

/-- The number of a physical line: bank position, physical row, column (R1, R7). -/
def physLine (l : LineAddr) (p : Place) : Nat :=
  ((keyPos (lineKey l)).val * 65568 + physRow (lineKey l) p) * 128 + (lineColumn l).val

/-- The number of a spare in the pool. -/
def spareNumber (p : BankPos) (i : SpareIdx) : Nat := p.val * 32 + i.val

/-! ### Bits -/

/-- A field of `w` bits, most significant bit first (R35, R179). -/
def fieldBits (w : Nat) (v : Nat) : List Bool := (List.range w).map fun i => v.testBit (w - 1 - i)

/-- The number that a field's bits spell, most significant bit first (R35, R179). -/
def fieldValue (bs : List Bool) : Nat := bs.foldl (fun acc b => acc * 2 + b.toNat) 0

/-- The bits of bytes as the management port shifts them, each most significant bit first (R179). -/
def bitsOf (bs : List Byte) : List Bool := bs.flatMap fun b => fieldBits 8 b.toNat

/-- The bytes that have been received: a byte is received when its eighth bit has been sampled, and the bits of a last
partial byte make none (R179). -/
def receivedBytes : List Bool → List Byte
  | b7 :: b6 :: b5 :: b4 :: b3 :: b2 :: b1 :: b0 :: rest =>
    BitVec.ofNat 8 (fieldValue [b7, b6, b5, b4, b3, b2, b1, b0]) :: receivedBytes rest
  | _ => []

/-! ### Bytes -/

/-- `n` bytes of a number, most significant first (R182). -/
def bytesOf : (n : Nat) → Nat → List Byte
  | 0, _ => []
  | n + 1, v => bytesOf n (v / 256) ++ [BitVec.ofNat 8 v]

/-- The number that bytes spell, most significant first (R182). -/
def numberOf (bs : List Byte) : Nat := bs.foldl (fun acc b => acc * 256 + b.toNat) 0

/-- FFh, `n` times. -/
def blanks (n : Nat) : List Byte := List.replicate n 0xFF

/-! ### Arguments of the commands -/

def rankArg (b : Byte) : Option Rank := if h : b.toNat < 2 then some ⟨b.toNat, h⟩ else none

def bankArg (b : Byte) : Option Bank := if h : b.toNat < 16 then some ⟨b.toNat, h⟩ else none

/-- Rank, bank, host row in two bytes (R182); none when the rank or the bank is out of range (R5, R181). -/
def keyArg : List Byte → Option RowKey
  | [r, b, hi, lo] =>
    match rankArg r, bankArg b with
    | some rank, some bank => some ⟨rank, bank, ⟨hi.toNat * 256 + lo.toNat, by have := hi.isLt; have := lo.isLt; omega⟩⟩
    | _, _ => none
  | _ => none

/-- Rank and bank (R165). -/
def posArg : List Byte → Option BankPos
  | [r, b] =>
    match rankArg r, bankArg b with
    | some rank, some bank => some (bankPos rank bank)
    | _, _ => none
  | _ => none

/-- A slot of the fault table: every value is valid (R76). -/
def tableSlotArg : List Byte → Option (Fin 256)
  | [b] => some ⟨b.toNat, b.isLt⟩
  | _ => none

/-- A slot of the repair store (R181). -/
def storeSlotArg : List Byte → Option (Fin 64)
  | [b] => if h : b.toNat < 64 then some ⟨b.toNat, h⟩ else none
  | _ => none

/-- The identifier of a parameter (R185). -/
def ParamId.code : ParamId → Byte
  | .wHost => 0x01
  | .wPatrol => 0x02
  | .bonus => 0x03
  | .tSuspect => 0x04
  | .tSpare => 0x05
  | .stuck => 0x06
  | .decayShift => 0x07
  | .period => 0x08
  | .bankMask => 0x09
  | .urgentThreshold => 0x0A
  | .quietThreshold => 0x0B
  | .dwell => 0x0C
  | .holdLimit => 0x0D
  | .autoPersist => 0x0E

def allParams : List ParamId :=
  [.wHost, .wPatrol, .bonus, .tSuspect, .tSpare, .stuck, .decayShift, .period, .bankMask, .urgentThreshold,
    .quietThreshold, .dwell, .holdLimit, .autoPersist]

def paramArg (b : Byte) : Option ParamId := allParams.find? fun p => p.code == b

def getParamArg : List Byte → Option ParamId
  | [b] => paramArg b
  | _ => none

/-- Identifier, then the value in four bytes (R182, R186). -/
def setParamArg : List Byte → Option (ParamId × BitVec 32)
  | b :: vs => (paramArg b).map fun p => (p, BitVec.ofNat 32 (numberOf vs))
  | [] => none

/-- A set of ten bits in two bytes; bits 10 to 15 are ignored (R181). -/
def flagSetArg (bs : List Byte) : BitVec 10 := BitVec.ofNat 10 (numberOf bs)

/-- The command table of R182, but for CLEAR: the count of argument bytes, and the reading of the arguments, none when a
range check fails. -/
def commandTable (code : Byte) : Option (Nat × (List Byte → Option PortCommand)) :=
  match code.toNat with
  | 0x01 => some (0, fun _ => some .status)
  | 0x10 => some (4, fun a => (keyArg a).map .findRecord)
  | 0x11 => some (1, fun a => (tableSlotArg a).map .readRecord)
  | 0x12 => some (4, fun a => (keyArg a).map .watchRow)
  | 0x13 => some (4, fun a => (keyArg a).map .pin)
  | 0x14 => some (4, fun a => (keyArg a).map .unpin)
  | 0x15 => some (4, fun a => (keyArg a).map .release)
  | 0x20 => some (4, fun a => (keyArg a).map .forceSpare)
  | 0x21 => some (4, fun a => (keyArg a).map .abortMigration)
  | 0x22 => some (2, fun a => (posArg a).map .spareMap)
  | 0x30 => some (4, fun a => (keyArg a).map .persist)
  | 0x31 => some (1, fun a => (storeSlotArg a).map .readStore)
  | 0x40 => some (5, fun a => (setParamArg a).map fun p => .setParam p.1 p.2)
  | 0x41 => some (1, fun a => (getParamArg a).map .getParam)
  | 0x50 => some (0, fun _ => some .readCounters)
  | 0x51 => some (0, fun _ => some .clearCounters)
  | 0x60 => some (2, fun a => some (.ackAttention (flagSetArg a)))
  | 0x61 => some (2, fun a => some (.setAttentionMask (flagSetArg a)))
  | _ => none

/-- The code of CLEAR (R182). -/
def clearCode : Byte := 0x7F

end Sys2Proof.Machine
end

