-- ==== Sys2Proof/Machine/Ops.lean ====
section
/-! DEFINITION. Machine/Ops.lean: the named operations that blocks share: contents kept by number, the media, lookup of
records, routing (spec/01, R10 to R15), the line orders (spec/03, R40, R41), and the Quiet Monitor's reports (R52, R135). -/

namespace Sys2Proof.Machine

/-! ### Contents kept by number -/

/-- The value listed under a number. -/
def Sparse.read {α : Type} (k : Nat) (m : Sparse α) : Option α := (m.find? fun e => e.1 == k).map Prod.snd

/-- `v` under number `k`, every other number as it was. -/
def Sparse.write {α : Type} (k : Nat) (v : α) (m : Sparse α) : Sparse α :=
  m.filter (fun e => e.1 < k) ++ (k, v) :: m.filter (fun e => k < e.1)

/-- Nothing under number `k`, every other number as it was. -/
def Sparse.erase {α : Type} (k : Nat) (m : Sparse α) : Sparse α := m.filter fun e => e.1 != k

/-! ### Lists -/

/-- The first element that `p` holds of, replaced. -/
def modifyFirst {α : Type} (p : α → Bool) (f : α → α) : List α → List α
  | [] => []
  | a :: l => if p a then f a :: l else a :: modifyFirst p f l

/-- A set of columns in rising order, with `c` in it. -/
def insertColumn (c : Column) (l : List Column) : List Column :=
  l.filter (fun x => x < c) ++ c :: l.filter (fun x => c < x)

/-- A set of columns without `c`. -/
def eraseColumn (c : Column) (l : List Column) : List Column := l.filter fun x => x != c

/-! ### The media -/

/-- The stored bits of a physical line: as the part last wrote them, or the free power-on contents (R9, log 9). -/
def Media.stored (m : Media) (n : Nat) : StoredLine :=
  (Sparse.read n m.lines).getD (Config.powerOnLine m.powerCycles n)

/-- One line written. -/
def Media.put (m : Media) (n : Nat) (v : StoredLine) : Media := { m with lines := Sparse.write n v m.lines }

/-- A line whose write RESET_N cut off: each bit is the new one or the old one, as the free value says (R9, log 10). -/
def Media.tear (m : Media) (n : Nat) (v : StoredLine) : Media :=
  let sel := Config.tornBits m.torn
  { m.put n ((v &&& sel) ||| (m.stored n &&& ~~~sel)) with torn := m.torn + 1 }

/-- The stored bits of a line at a place. -/
def storedAt (s : State) (l : LineAddr) (p : Place) : StoredLine := s.media.stored (physLine l p)

/-- A media read of a line at a place: what the line holds, changed in the bits of `damage`, decoded (R20 to R28). -/
def readLine (s : State) (l : LineAddr) (p : Place) (damage : StoredLine) : Decode :=
  decodeLine l (lineColumn l) p (storedAt s l p ^^^ damage)

/-- A media write of a line, to every target (R13, R19, R23). -/
def writeLine (l : LineAddr) (targets : List Place) (content : LineContent) (s : State) : State :=
  s.setMedia (targets.foldl (fun m p => m.put (physLine l p) content.stored) s.media)

/-! ### Records -/

/-- R59. -/
def lookup (s : State) (k : RowKey) : Option Record := s.table.find? fun r => r.key == k

/-- The record of the line's row key. -/
def lineRecord (s : State) (l : LineAddr) : Option Record := lookup s (lineKey l)

/-- The record of a key changed, every other record as it was. -/
def updateRecord (k : RowKey) (f : Record → Record) (s : State) : State :=
  s.setTable (s.table.map fun r => if r.key = k then f r else r)

/-- The migration in progress: the record that is MIGRATING (R150). -/
def migrating (s : State) : Option Record := s.table.find? fun r => r.state == .migrating

/-- The record lists the column in its poison list (R43). -/
def listsColumn (r : Option Record) (c : Column) : Bool :=
  match r with
  | some r => r.poison.contains c
  | none => false

/-- A write removes the column from the poison list, the others in their order, the overflow flag as it is (R48). -/
def clearPoison (l : LineAddr) (s : State) : State :=
  updateRecord (lineKey l) (fun r => { r with poison := r.poison.filter fun c => c != lineColumn l }) s

/-! ### Routing -/

/-- The home of a row (R10). -/
def homePlace (r : Option Record) : Place :=
  match r with
  | some r => match r.homeSpare with
    | some i => .spare i
    | none => .hostRow
  | none => .hostRow

/-- The destination of a record that is MIGRATING, with its copy cursor. -/
def migrationTarget (r : Record) : Option (SpareIdx × Nat) :=
  match r.state, r.destSpare, r.migration with
  | .migrating, some d, some m => some (d, m.copyCursor)
  | _, _, _ => none

/-- The record is MIGRATING onto the spare (R15, R45). -/
def migratesOnto (r : Option Record) (d : SpareIdx) : Bool :=
  match r with
  | some r => r.state == .migrating && r.destSpare == some d
  | none => false

/-- The read target of a column, and whether it is the destination (R11, R12). -/
def readTarget (r : Option Record) (c : Column) : Place × Bool :=
  match r.bind migrationTarget with
  | some (d, k) => if c.val < k then (.spare d, true) else (homePlace r, false)
  | none => (homePlace r, false)

/-- The copy of the line's column is in flight: from the issue of its copy read until its column ends (R13, R152). -/
def copyInFlight (s : State) (l : LineAddr) : Bool :=
  match s.engine.step with
  | some st => st.line == l && !st.leftover && st.stage != .checkRead
  | none => false

/-- The write targets of a column (R11, R13). -/
def writeTargets (s : State) (l : LineAddr) : List Place :=
  let r := lineRecord s l
  match r.bind migrationTarget with
  | some (d, k) =>
    if (lineColumn l).val < k ∨ ((lineColumn l).val = k ∧ copyInFlight s l = true) then [homePlace r, .spare d]
    else [homePlace r]
  | none => [homePlace r]

/-- The marked-column set follows a write that lands on the destination of the migration in progress (R157). -/
def followMarked (l : LineAddr) (targets : List Place) (content : LineContent) (s : State) : State :=
  match (lineRecord s l).bind migrationTarget with
  | some (d, _) =>
    if targets.contains (.spare d) then
      match content with
      | .data _ => s.setEngine { s.engine with marked := eraseColumn (lineColumn l) s.engine.marked }
      | .mark => s.setEngine { s.engine with marked := insertColumn (lineColumn l) s.engine.marked }
    else s
  | none => s

/-! ### Line orders -/

/-- The operation at the head of a line's order (R40, R41). -/
def headOp (s : State) (l : LineAddr) : Option Op := s.ops.find? fun o => o.line == l

/-- An operation joins at the end of its line's order (R40). -/
def joinOrder (o : Op) (s : State) : State := s.setOps (s.ops ++ [o])

/-- The operation at the head of the line's order leaves it (R40). -/
def leaveOrder (l : LineAddr) (s : State) : State := s.setOps (s.ops.eraseP fun o => o.line == l)

/-- The operation at the head of the line's order goes on to a new stage. -/
def setStage (l : LineAddr) (st : Stage) (s : State) : State :=
  s.setOps (modifyFirst (fun o => o.line == l) (fun o => { o with stage := st }) s.ops)

/-- A media read is issued (R15). -/
def issueRead (l : LineAddr) (p : Place) (viaDest : Bool) (s : State) : State :=
  (setStage l (.reading p viaDest s.stamps) s).setStamps (s.stamps + 1)

/-- The second media read of a re-served read is issued (R45). -/
def issueReread (l : LineAddr) (p : Place) (s : State) : State :=
  (setStage l (.rereading p s.stamps) s).setStamps (s.stamps + 1)

/-- The media writes of an operation are issued (R13, R15). -/
def issueWrite (l : LineAddr) (targets : List Place) (content : LineContent) (s : State) : State :=
  (setStage l (.writing targets content s.stamps) s).setStamps (s.stamps + 1)

/-- The places that the media operations of a stage are made to. -/
def Stage.places : Stage → List Place
  | .waiting => []
  | .reading p _ _ => [p]
  | .rereading p _ => [p]
  | .writing ps _ _ => ps

/-- The number of a stage's media operations in the order of issue. -/
def Stage.stamp : Stage → Nat
  | .waiting => 0
  | .reading _ _ n => n
  | .rereading _ n => n
  | .writing _ _ n => n

/-- The physical lines of an operation in flight. -/
def Op.physLines (o : Op) : List Nat := o.stage.places.map (physLine o.line)

/-- The DRAM side completes media operations on one physical line in the order of their issue (R147): no operation in
flight on a physical line of `o` was issued before it. -/
def mediaReady (s : State) (o : Op) : Bool :=
  s.ops.all fun o' => !(o'.stage.stamp < o.stage.stamp && o'.physLines.any fun n => o.physLines.contains n)

/-- The operation at the head of the line's order, when its media operations may complete. -/
def completing (s : State) (l : LineAddr) : Option Op := (headOp s l).filter (mediaReady s)

/-- A host WR or MWR stands in the line's order (R155, R156). -/
def writeStands (s : State) (l : LineAddr) : Bool :=
  s.ops.any fun o => o.line == l && match o.kind with
    | .wr _ => true
    | .mwr _ _ => true
    | _ => false

/-! ### Occupancy and the quiet state -/

/-- R52: the outstanding requests; orphans hold no tag. -/
def occupancy (s : State) : Nat := s.ops.countP fun o => o.tag.isSome

/-- A tag is held by an outstanding request (R38). -/
def tagHeld (s : State) (t : Tag) : Bool := s.ops.any fun o => o.tag == some t

/-- What the Quiet Monitor makes of an occupancy report `n` (R135). -/
def Quiet.report (p : Params) (n : Nat) (q : Quiet) : Quiet :=
  match q.state with
  | .notQuiet => if n ≤ p.quietThreshold then ⟨.settling, some p.dwell, n⟩ else ⟨.notQuiet, none, n⟩
  | .settling => if n ≤ p.quietThreshold then { q with lastOccupancy := n } else ⟨.notQuiet, none, n⟩
  | .quiet => if n ≤ p.quietThreshold then { q with lastOccupancy := n } else ⟨.notQuiet, none, n⟩

/-- The occupancy is reported to the Quiet Monitor (R52). -/
def reportOccupancy (s : State) : State := s.setQuiet (s.quiet.report s.params (occupancy s))

/-! ### The background issue slot -/

/-- The background issue slot is free again (R139). -/
def freeSlot (s : State) : State := s.setSlot none

end Sys2Proof.Machine
end

