-- ==== Sys2Proof/Machine/Sparing.lean ====
section
/-! DEFINITION. Machine/Sparing.lean: the Spare Pool, the migration queue, the persist engine's beginning of a program, and
the Migration Engine's taking, failure and completion (spec/09, R145 to R162; spec/10, R171 to R174). -/

namespace Sys2Proof.Machine

/-! ### Spare pool -/

/-- The state of a spare (R145). -/
def spareState (m : Sparse SpareUse) (p : BankPos) (i : SpareIdx) : SpareState :=
  match Sparse.read (spareNumber p i) m with
  | none => .free
  | some .assigned => .assigned
  | some .burned => .burned

/-- A spare put into a state (R145). -/
def setSpare (p : BankPos) (i : SpareIdx) (st : SpareState) (s : State) : State :=
  s.setSpares <| match st with
    | .free => Sparse.erase (spareNumber p i) s.spares
    | .assigned => Sparse.write (spareNumber p i) .assigned s.spares
    | .burned => Sparse.write (spareNumber p i) .burned s.spares

/-- The FREE count of a bank position, 0 to 32 (R145). -/
def freeCount (m : Sparse SpareUse) (p : BankPos) : Nat :=
  (List.finRange 32).countP fun i => spareState m p i == .free

/-- The FREE total of the module, 0 to 1,024 (R145). -/
def freeTotal (m : Sparse SpareUse) : Nat := ((List.finRange 32).map (freeCount m)).sum

/-- The FREE spare of a bank position with the lowest index (R146). -/
def lowestFree (m : Sparse SpareUse) (p : BankPos) : Option SpareIdx :=
  (List.finRange 32).find? fun i => spareState m p i == .free

/-- SPARES_LOW is set when the bank's FREE count is left at 2 or below (R148, R169). -/
def warnLow (p : BankPos) (s : State) : State :=
  if freeCount s.spares p ≤ 2 then raise .sparesLow s else s

/-- Allocation: the FREE spare becomes ASSIGNED (R146, R148). -/
def allocate (p : BankPos) (i : SpareIdx) (s : State) : State := warnLow p (setSpare p i .assigned s)

/-- An ASSIGNED spare becomes BURNED and is counted (R147). -/
def burn (p : BankPos) (i : SpareIdx) (s : State) : State := count .sparesBurned (setSpare p i .burned s)

/-! ### Migration queue -/

/-- A record leaves the queue, the others in their order (R149). -/
def MigQueue.remove (k : RowKey) (q : MigQueue) : MigQueue :=
  ⟨q.urgent.filter fun x => x != k, q.normal.filter fun x => x != k⟩

/-- A record joins at the end of the urgent section, or at the end of the queue (R95). -/
def MigQueue.join (k : RowKey) (urgent : Bool) (q : MigQueue) : MigQueue :=
  if urgent then { q with urgent := q.urgent ++ [k] } else { q with normal := q.normal ++ [k] }

/-- The head, and the queue without it (R149). -/
def MigQueue.takeHead (q : MigQueue) : Option (RowKey × MigQueue) :=
  match q.urgent, q.normal with
  | k :: u, n => some (k, ⟨u, n⟩)
  | [], k :: n => some (k, ⟨[], n⟩)
  | [], [] => none

def MigQueue.length (q : MigQueue) : Nat := q.urgent.length + q.normal.length

/-! ### Persist engine: beginning a program -/

/-- The lowest EMPTY slot (R172). -/
def lowestEmpty (v : Vector StoreSlot 64) : Option (Fin 64) := (List.finRange 64).find? fun n => v[n] == .empty

/-- No slot is EMPTY: the work is given up (R174). -/
def storeFull (s : State) : State :=
  raise .storeFull <|
    (s.setTable (s.table.map fun r => { r with persistWanted := false })).setPersist ⟨[], none⟩

/-- A program of the item begins in the lowest EMPTY slot, as its `n`-th slot, or the store is full (R172, R174). -/
def beginProgram (item : StoreItem) (n : Nat) (s : State) : State :=
  match lowestEmpty s.store with
  | some slot => s.setPersist { s.persist with program := some ⟨slot, item, n⟩ }
  | none => storeFull s

/-- The item of a record whose home is to be recorded (R172). -/
def repairItem (r : Record) : Option StoreItem :=
  if r.persistWanted then r.homeSpare.map fun h => .repair r.key h else none

/-- The engine's choice: the head of the bad-spare list, otherwise the oldest record with persist wanted (R172). -/
def chooseItem (s : State) : Option StoreItem :=
  match s.persist.badSpares with
  | b :: _ => some (.badSpare b)
  | [] => s.table.findSome? repairItem

/-- When the engine is idle, the part RUNNING and work exists, a program begins at once (R172). -/
def startPersist (s : State) : State :=
  if s.phase = .running ∧ s.persist.program = none then
    match chooseItem s with
    | some item => beginProgram item 1 s
    | none => s
  else s

/-- A bad-spare item arrives (R171): not added when it is listed already, dropped when the list holds 8. -/
def reportBadSpare (b : SpareName) (s : State) : State :=
  if s.persist.badSpares.contains b ∨ 8 ≤ s.persist.badSpares.length then s
  else s.setPersist { s.persist with badSpares := s.persist.badSpares ++ [b] }

/-! ### Migration engine -/

/-- The record enters MIGRATING onto a destination, at the given attempt (R151, R159). -/
def Record.startAttempt (d : SpareIdx) (attempt : Nat) (r : Record) : Record :=
  { r with state := .migrating, destSpare := some d, migration := some ⟨.copy, 0, 0, attempt⟩ }

/-- The record leaves QUEUED or MIGRATING for a state in which it has no destination and no urgency (R55). -/
def Record.settle (st : RecordState) (r : Record) : Record :=
  { r with state := st, destSpare := none, migration := none, urgent := false }

/-- The record becomes CONDEMNED on its home (R151, R159, R161). -/
def condemn (k : RowKey) (s : State) : State := raise .condemned (updateRecord k (Record.settle .condemned) s)

/-- The destination is allocated and the attempt begins with an empty marked-column set (R151, R159). -/
def startAttempt (k : RowKey) (d : SpareIdx) (attempt : Nat) (s : State) : State :=
  let s := allocate (keyPos k) d s
  updateRecord k (Record.startAttempt d attempt) (s.setEngine { s.engine with marked := [] })

/-- The idle engine takes the head of the queue, at once, and goes on while it condemns (R150, R151). The first argument
bounds the records taken. -/
def takeHeads : Nat → State → State
  | 0, s => s
  | n + 1, s =>
    if (migrating s).isSome then s
    else match s.queue.takeHead with
      | none => s
      | some (k, rest) =>
        let s := s.setQueue rest
        match lowestFree s.spares (keyPos k) with
        | some d => startAttempt k d 1 s
        | none => takeHeads n (condemn k s)

/-- The engine serves the queue (R150). -/
def serveQueue (s : State) : State := takeHeads s.queue.length s

/-- The attempt of the step in flight has ended (R160): a copy step whose copy write is not issued has no media operation
left and completes, any other becomes the leftover step. -/
def orphanStep (s : State) : State :=
  match s.engine.step with
  | none => s
  | some st =>
    match st.stage with
    | .awaitHost _ => freeSlot (s.setEngine { s.engine with step := none })
    | _ => s.setEngine { s.engine with step := some { st with leftover := true } }

/-- The attempt of the migrating record `r` onto `d` fails (R159). -/
def failAttempt (r : Record) (d : SpareIdx) (s : State) : State :=
  let p := keyPos r.key
  let s := reportBadSpare ⟨p, d⟩ (burn p d s)
  let s := orphanStep (s.setEngine { s.engine with marked := [] })
  let attempt := (r.migration.map MigSub.attempt).getD 3
  startPersist <|
    match (if attempt < 3 then lowestFree s.spares p else none) with
    | some d' => startAttempt r.key d' (attempt + 1) s
    | none => serveQueue (condemn r.key s)

/-- A read of the destination that decodes CORRECTED or UNCORRECTABLE reports the failure (R158). It ends the attempt when
the record is still MIGRATING onto that destination. -/
def reportFailure (l : LineAddr) (d : SpareIdx) (s : State) : State :=
  match lineRecord s l with
  | some r => if migratesOnto (some r) d then failAttempt r d s else s
  | none => s

/-- The record's change at the completion of its migration onto `d` (R162). -/
def Record.complete (d : SpareIdx) (autoPersist : Bool) (r : Record) : Record :=
  { r.settle .spared with
    homeSpare := some d, weight := 0, signature := none, persisted := false, persistWanted := autoPersist }

/-- The migration of `r` onto `d` completes (R162). -/
def completeMigration (r : Record) (d : SpareIdx) (s : State) : State :=
  let s := match r.homeSpare with
    | some h => burn (keyPos r.key) h s
    | none => s
  let s := updateRecord r.key (Record.complete d s.params.autoPersist) s
  let s := raise .spareDone (count .migrationsDone s)
  startPersist (serveQueue (s.setEngine { s.engine with marked := [] }))

/-- The step in flight completes and the slot is free (R152, R160). -/
def endStep (s : State) : State := freeSlot (s.setEngine { s.engine with step := none })

/-- Column `k` of the migration in progress ends: the copy cursor rises, and at 128 the phase becomes CHECK; the step
completes (R154, R155). -/
def endColumn (l : LineAddr) (s : State) : State :=
  endStep <| updateRecord (lineKey l) (fun r =>
    { r with migration := r.migration.map fun m =>
        if m.copyCursor + 1 = 128 then { m with copyCursor := 128, phase := .check, checkCursor := 0 }
        else { m with copyCursor := m.copyCursor + 1 } }) s

/-- The content that a copy step waiting for a host request on the line has found (R155). -/
def awaitedContent (s : State) (l : LineAddr) : Option LineContent :=
  match s.engine.step with
  | some st =>
    if st.line = l ∧ st.leftover = false then
      match st.stage with
      | .awaitHost c => some c
      | _ => none
    else none
  | none => none

/-- The copy write is issued to the destination and joins the line's order (R154). -/
def issueCopyWrite (l : LineAddr) (content : LineContent) (s : State) : State :=
  match s.engine.step with
  | some st =>
    let s := joinOrder ⟨l, .copyWrite, none, .writing [.spare st.dest] content s.stamps, none⟩ (s.setStamps (s.stamps + 1))
    s.setEngine { s.engine with step := some { st with stage := .copyWrite } }
  | none => s

/-- A host write on the line has completed: if the copy step waits for it, the column ends (R155). -/
def hostWriteEndsColumn (l : LineAddr) (s : State) : State :=
  match awaitedContent s l with
  | some _ => endColumn l s
  | none => s

/-- A cancelling MWR has ended without a write: the next host write of the line becomes the cancelling request, or, when
none stands, the copy write is issued (R156). -/
def hostWriteGivenUp (l : LineAddr) (s : State) : State :=
  match awaitedContent s l with
  | some c => if writeStands s l then s else issueCopyWrite l c s
  | none => s

end Sys2Proof.Machine
end

