-- ==== Sys2Proof/Machine/FaultTable.lean ====
section
/-! DEFINITION. Machine/FaultTable.lean: error events, creation, eviction and release (spec/04), scoring, evaluation and decay
(spec/05). -/

namespace Sys2Proof.Machine

/-! ### Creation, eviction, release -/

/-- The lowest-numbered free slot (R57). -/
def lowestSlot (t : List Record) : Option (Fin 256) := (List.finRange 256).find? fun n => t.all fun r => r.slot != n

/-- A record that may be evicted (R64). -/
def Record.evictable (r : Record) : Bool := r.state == .watch && !r.pinned && r.poison.isEmpty && !r.overflow

/-- The candidate of lowest weight, the earliest in the age list among equals (R64). -/
def victim : List Record → Option Record
  | [] => none
  | r :: l =>
    match victim l with
    | none => if r.evictable then some r else none
    | some v => if r.evictable && r.weight ≤ v.weight then some r else some v

/-- The slot for a new record and the table it joins: the lowest free slot, or that of the record evicted; none when the
creation is refused (R57, R64, R65). -/
def makeRoom (t : List Record) : Option (Fin 256 × List Record) :=
  match lowestSlot t with
  | some n => some (n, t)
  | none => (victim t).map fun v => (v.slot, t.filter fun r => r.slot != v.slot)

/-- The creation values of R62. -/
def Record.fresh (slot : Fin 256) (key : RowKey) (origin : Origin) : Record where
  slot := slot
  key := key
  state := .watch
  weight := 0
  corrections := 0
  signature := none
  homeSpare := none
  destSpare := none
  migration := none
  urgent := false
  poison := []
  overflow := false
  pinned := false
  blocked := false
  persisted := false
  persistWanted := false
  origin := origin

/-- A new record takes its slot and joins the end of the age list; none when the creation is refused (R57, R58, R62). -/
def createRecord (key : RowKey) (origin : Origin) (change : Record → Record) (s : State) : Option (Record × State) :=
  (makeRoom s.table).map fun (slot, t) =>
    let r := change (.fresh slot key origin)
    (r, s.setTable (t ++ [r]))

/-- The record of the key leaves the table, the age list and the migration queue (R70). -/
def releaseRecord (k : RowKey) (s : State) : State :=
  (s.setTable (s.table.filter fun r => r.key != k)).setQueue (s.queue.remove k)

/-! ### Scoring -/

/-- What an error event reports (R60). -/
inductive EventKind where
  | correction (cell : Cell)
  | uncorrectable
  deriving DecidableEq, Repr

/-- An error event; the row key and the column are those of its line (R60). -/
structure ErrorEvent where
  line   : LineAddr
  origin : Origin
  kind   : EventKind
  deriving DecidableEq, Repr

/-- The top of the weight (R53, R87). -/
def weightMax : Nat := 4095

/-- The increment of a correction event (R84). Events are never of origin STORE or COMMAND. -/
def increment (p : Params) : Origin → Nat
  | .hostRead => p.wHost
  | .maskedWrite => p.wHost
  | .patrol => p.wPatrol
  | .verify => p.wPatrol
  | .copy => p.wPatrol
  | .store => 0
  | .command => 0

/-- The signature after an event's cell, and whether the bonus applies (R86). -/
def matchSignature (c : Cell) : Option Signature → Signature × Bool
  | none => (⟨c, 1⟩, false)
  | some g =>
    if g.cell = c then (⟨c, min (g.repeats + 1) 15⟩, true)
    else if g.repeats ≤ 1 then (⟨c, 1⟩, false)
    else (g, false)

/-- corrections rises by one, saturating (R88). -/
def countCorrection (n : Nat) : Nat := min (n + 1) 65535

/-- Steps 1 to 3 of a correction event (R85). -/
def Record.correct (p : Params) (origin : Origin) (c : Cell) (r : Record) : Record :=
  let g := matchSignature c r.signature
  { r with
    corrections := countCorrection r.corrections
    signature := some g.1
    weight := min weightMax (r.weight + increment p origin + if g.2 then p.bonus else 0) }

/-- Steps 1 to 3 of a fresh-uncorrectable event (R89, R90). -/
def Record.lose (c : Column) (r : Record) : Record :=
  let r := { r with corrections := countCorrection r.corrections, weight := weightMax }
  if r.poison.contains c then r
  else if r.poison.length < 4 then { r with poison := r.poison ++ [c] }
  else { r with overflow := true }

/-- The record as an event leaves it, before the evaluation. -/
def Record.score (p : Params) (ev : ErrorEvent) (r : Record) : Record :=
  match ev.kind with
  | .correction c => r.correct p ev.origin c
  | .uncorrectable => r.lose (lineColumn ev.line)

/-! ### Evaluation -/

/-- What the evaluation of a record decides. -/
inductive Verdict where
  | keep
  | suspect
  | enqueue (urgent : Bool)
  /-- urgent is set on a QUEUED or MIGRATING record (R94) -/
  | urge
  deriving DecidableEq, Repr

/-- The repeat count of the signature has reached the stuck threshold (R92). -/
def Record.stuck (p : Params) (r : Record) : Bool :=
  match r.signature with
  | some g => p.stuck ≤ g.repeats
  | none => false

/-- R92 for a record that is not blocked. -/
def openVerdict (p : Params) (uncorrectable : Bool) (r : Record) : Verdict :=
  if uncorrectable then .enqueue true
  else if p.tSpare ≤ r.weight || r.stuck p then .enqueue false
  else if p.tSuspect ≤ r.weight then .suspect
  else .keep

/-- R93 for an auto-spare blocked record: every test that holds gives SUSPECT. -/
def blockedVerdict (p : Params) (uncorrectable : Bool) (r : Record) : Verdict :=
  if openVerdict p uncorrectable r = .keep then .keep else .suspect

/-- R92, R93, R94. -/
def evaluate (p : Params) (uncorrectable : Bool) (r : Record) : Verdict :=
  match r.state with
  | .watch => if r.blocked then blockedVerdict p uncorrectable r else openVerdict p uncorrectable r
  | .suspect => if r.blocked then blockedVerdict p uncorrectable r else openVerdict p uncorrectable r
  | .spared => if r.blocked then .keep else openVerdict p uncorrectable r
  | .queued => if uncorrectable && !r.urgent then .urge else .keep
  | .migrating => if uncorrectable then .urge else .keep
  | .condemned => .keep

/-- The record of the key enters QUEUED and joins the migration queue, and the engine serves the queue (R95, R150). -/
def enqueue (k : RowKey) (urgent : Bool) (s : State) : State :=
  let s := updateRecord k (fun r => { r with state := .queued, urgent := urgent }) s
  serveQueue (s.setQueue ((s.queue.remove k).join k urgent))

/-- The evaluation's outcome applied (R92 to R95). -/
def applyVerdict (r : Record) (v : Verdict) (s : State) : State :=
  match v with
  | .keep => s
  | .suspect => updateRecord r.key (fun r => { r with state := .suspect, urgent := false }) s
  | .enqueue urgent => enqueue r.key urgent s
  | .urge =>
    if r.state = .queued then enqueue r.key true s
    else updateRecord r.key (fun r => { r with urgent := true }) s

/-! ### Error events -/

/-- The counter of an event, tracked or not (R46, R91). -/
def countEvent (ev : ErrorEvent) (s : State) : State :=
  match ev.kind with
  | .uncorrectable => count .uncorrectable s
  | .correction _ =>
    match ev.origin with
    | .hostRead => count .hostCorrected s
    | .maskedWrite => count .hostCorrected s
    | _ => count .patrolCorrected s

def EventKind.isUncorrectable : EventKind → Bool
  | .uncorrectable => true
  | .correction _ => false

/-- The event finds a loss that the record's poison list did not name (R90). -/
def Record.newLoss (ev : ErrorEvent) (r : Record) : Bool :=
  ev.kind.isUncorrectable && !r.poison.contains (lineColumn ev.line)

/-- An event applied whole to the record of its row key (R61, R85, R89). -/
def applyEvent (ev : ErrorEvent) (r : Record) (s : State) : State :=
  let r' := r.score s.params ev
  let s := updateRecord r.key (fun _ => r') s
  let s := if r.newLoss ev then raise .uncorrectable s else s
  applyVerdict r' (evaluate s.params ev.kind.isUncorrectable r') s

/-- An event that no record could be found or made for (R63). -/
def untracked (ev : ErrorEvent) (s : State) : State :=
  let s := raise .tableOverflow (count .tableOverflow s)
  if ev.kind.isUncorrectable then raise .uncorrectable s else s

/-- The Fault Table receives an error event (R60 to R63). -/
def receiveEvent (ev : ErrorEvent) (s : State) : State :=
  let s := countEvent ev s
  match lineRecord s ev.line with
  | some r => applyEvent ev r s
  | none =>
    match createRecord (lineKey ev.line) ev.origin id s with
    | some (r, s) => applyEvent ev r s
    | none => untracked ev s

/-! ### Decay -/

/-- One decay of a weight (R96). -/
def decayWeight (d : Nat) (w : Nat) : Nat := if w = 0 then 0 else w - max 1 (w / 2 ^ d)

/-- A record after decay and hysteresis (R96, R97). -/
def Record.decay (p : Params) (r : Record) : Record :=
  let r := { r with weight := decayWeight p.decayShift r.weight }
  if r.state = .suspect ∧ r.weight < p.tSuspect / 2 then
    { r with state := if r.homeSpare.isSome then .spared else .watch, urgent := false }
  else r

/-- The record is released at decay (R71, R98). -/
def Record.faded (r : Record) : Bool :=
  r.state == .watch && r.weight == 0 && !r.pinned && r.poison.isEmpty && !r.overflow

/-- Decay, taken up whole over every record (R96 to R98). -/
def decayAll (s : State) : State := s.setTable ((s.table.map (Record.decay s.params)).filter fun r => !r.faded)

end Sys2Proof.Machine
end

