-- ==== Sys2Proof/Machine/PatrolOps.lean ====
section
/-! DEFINITION. Machine/PatrolOps.lean: the cursor, the pace interval, the beginning and completion of row patrols, and pass
completion (spec/07). -/

namespace Sys2Proof.Machine

/-- The mask includes the bank position (R6, R120). -/
def included (mask : BitVec 32) (p : BankPos) : Bool := mask.getLsbD p.val

/-- Included bank positions (R120). -/
def includedCount (mask : BitVec 32) : Nat := (List.finRange 32).countP (included mask)

/-- N: the number of positions in one pass (R120). -/
def passPositions (mask : BitVec 32) : Nat := includedCount mask * 65536

/-- The pace interval in µs; none when N is 0 (R121). -/
def paceInterval (p : Params) : Option Nat :=
  if passPositions p.bankMask = 0 then none else some (p.period * 60000000 / passPositions p.bankMask)

/-- The position after the cursor in patrol order, and whether the cursor wraps; none when the mask is empty (R120). -/
def nextPosition (mask : BitVec 32) (row : HostRow) (pos : BankPos) : Option (HostRow × BankPos × Bool) :=
  match (List.finRange 32).find? fun p => pos < p && included mask p with
  | some p => some (row, p, false)
  | none =>
    ((List.finRange 32).find? (included mask)).map fun p =>
      if h : row.val + 1 < 65536 then (⟨row.val + 1, h⟩, p, false) else (0, p, true)

/-- A pass completes: the pass number rises, wrapping, and every record decays (R131). -/
def completePass (s : State) : State :=
  decayAll (s.setPatrol { s.patrol with passNumber := s.patrol.passNumber + 1 })

/-- The cursor advances; an empty mask leaves it where it stands (R120, R124). -/
def advanceCursor (s : State) : State :=
  match nextPosition s.params.bankMask s.patrol.row s.patrol.pos with
  | none => s
  | some (row, pos, wraps) =>
    let s := s.setPatrol { s.patrol with row := row, pos := pos }
    if wraps then completePass s else s

/-- The row key of the cursor's position. -/
def cursorKey (s : State) : RowKey := keyAt s.patrol.pos s.patrol.row

/-- The row patrol completes (R130). -/
def completeRow (s : State) : State := advanceCursor (s.setPatrol { s.patrol with current := none })

/-- Row patrols begin while they are skipped (R126). The first argument bounds the beginnings. -/
def beginRows : Nat → State → State
  | 0, s => s
  | n + 1, s =>
    if s.phase = .running ∧ includedCount s.params.bankMask ≠ 0 ∧ s.patrol.current = none ∧ s.patrol.credits ≠ 0 then
      let s := s.setPatrol { s.patrol with credits := s.patrol.credits - 1 }
      match lookup s (cursorKey s) with
      | some r =>
        if r.state = .migrating then beginRows n (completeRow s)
        else s.setPatrol { s.patrol with current := some 0 }
      | none => s.setPatrol { s.patrol with current := some 0 }
    else s

/-- A row patrol begins if it may (R126); each beginning spends a credit. -/
def beginRow (s : State) : State := beginRows s.patrol.credits s

/-- The pace interval restarts, or starts, while the part is RUNNING and the mask is not empty; an empty mask stops the timer (R122,
R124, R125). -/
def restartPace (s : State) : State :=
  s.setPatrol { s.patrol with paceTimer := if s.phase = .running then paceInterval s.params else none }

/-- What a setting of the bank mask does to the patrol (R124, R125). -/
def maskChanged (s : State) : State :=
  let s := restartPace s
  if includedCount s.params.bankMask = 0 then s.setPatrol { s.patrol with credits := 0 }
  else
    let s := if s.patrol.current = none ∧ included s.params.bankMask s.patrol.pos = false then advanceCursor s else s
    beginRow s

end Sys2Proof.Machine
end

