-- ==== Sys2Proof/Machine/Queues.lean ====
section
/-! DEFINITION. Machine/Queues.lean: the Writeback Queue and the Verify Queue (spec/06), and what a completed media read
hands on (spec/03, R46). -/

namespace Sys2Proof.Machine

/-! ### Writeback queue -/

/-- The queue's entry for a line (R100). -/
def wbEntry (s : State) (l : LineAddr) : Option WbEntry := s.wbQueue.find? fun e => e.line == l

/-- A write notice (R103): the line's entry is removed and every open read of the line is overtaken. -/
def writeNotice (l : LineAddr) (s : State) : State :=
  let s := s.setOps (s.ops.map fun o => if o.line = l then { o with openRead := o.openRead.map fun _ => true } else o)
  match wbEntry s l with
  | some _ => count .wbSuperseded (s.setWbQueue (s.wbQueue.filter fun e => e.line != l))
  | none => s

/-- A writeback request, with the overtaken flag of the read it came from (R104, R105). -/
def requestWriteback (l : LineAddr) (content : LineContent) (overtaken : Bool) (s : State) : State :=
  if overtaken then count .wbSuperseded s
  else match wbEntry s l with
    | some _ => s.setWbQueue (modifyFirst (fun e => e.line == l) (fun e => { e with content := content }) s.wbQueue)
    | none =>
      if 16 ≤ s.wbQueue.length then count .wbDropped s
      else s.setWbQueue (s.wbQueue ++ [⟨l, content⟩])

/-! ### Verify queue -/

/-- A verify request (R111). -/
def requestVerify (l : LineAddr) (s : State) : State :=
  if s.verifyQueue.contains l then s
  else if 8 ≤ s.verifyQueue.length then count .verifyDropped s
  else s.setVerifyQueue (s.verifyQueue ++ [l])

/-- A writeback of the line is the background operation in flight. -/
def writebackInFlight (s : State) (l : LineAddr) : Bool := s.slot == some (.writeback l)

/-- A verify entry may be issued (R113). -/
def verifyEligible (s : State) (l : LineAddr) : Bool := (wbEntry s l).isNone && !writebackInFlight s l

/-- The oldest eligible verify entry (R113). -/
def nextVerify (s : State) : Option LineAddr := s.verifyQueue.find? (verifyEligible s)

/-! ### What a read hands on -/

/-- The overtaken flag of an operation's open-read entry (R102). -/
def Op.overtaken (o : Op) : Bool := o.openRead.getD false

/-- The error event of a decode, handed to the Fault Table; CLEAN and MARK raise none (R26, R46, R60). -/
def handEvent (d : Decode) (origin : Origin) (s : State) : State :=
  match d.outcome, d.cell with
  | .corrected, some c => receiveEvent ⟨d.line, origin, .correction c⟩ s
  | .uncorrectable, _ => receiveEvent ⟨d.line, origin, .uncorrectable⟩ s
  | _, _ => s

/-- The DATA request of a corrected decode and the MARK request of an uncorrectable one (R101). -/
def handWriteback (d : Decode) (overtaken : Bool) (s : State) : State :=
  match d.outcome with
  | .corrected => requestWriteback d.line (.data d.data) overtaken s
  | .uncorrectable => requestWriteback d.line .mark overtaken s
  | .clean => s
  | .mark => s

/-- The MARK request of an uncorrectable decode alone: a masked write's read half and a copy read request nothing for a
corrected decode (R49, R101, R153). -/
def handMark (d : Decode) (overtaken : Bool) (s : State) : State :=
  match d.outcome with
  | .uncorrectable => requestWriteback d.line .mark overtaken s
  | .corrected => s
  | .clean => s
  | .mark => s

/-- The verify request of a corrected host read (R44, R111). -/
def handVerify (d : Decode) (s : State) : State :=
  match d.outcome with
  | .corrected => requestVerify d.line s
  | .uncorrectable => s
  | .clean => s
  | .mark => s

/-- The decode of a destination fails the attempt (R45, R158). -/
def Decode.failsDestination (d : Decode) : Bool := d.outcome == .corrected || d.outcome == .uncorrectable

/-- A read of the place `p` must be read again from the home: it was routed to a destination that has not become the
home, and its decode is CORRECTED or UNCORRECTABLE (R45, R114). -/
def mustReserve (s : State) (l : LineAddr) (p : Place) (viaDest : Bool) (d : Decode) : Bool :=
  viaDest && d.failsDestination && homePlace (lineRecord s l) != p

/-- A read from a destination failed: the failure is reported to the engine, which acts on it when the record is still
MIGRATING onto that destination, and the line is read again from the source or home (R45, R158). -/
def reserve (l : LineAddr) (p : Place) (s : State) : State :=
  let s := match p with
    | .spare d => reportFailure l d s
    | .hostRow => s
  issueReread l (homePlace (lineRecord s l)) s

end Sys2Proof.Machine
end

