-- ==== Sys2Proof/Machine/Background.lean ====
section
/-! DEFINITION. Machine/Background.lean: the Background Arbiter (spec/08, R139 to R143), and the performance of writebacks
(R108), verify reads (R114, R115) and patrol line reads (R128, R129). -/

namespace Sys2Proof.Machine

/-! ### Claims and the grant -/

/-- What the slot is awarded to (R140). -/
inductive Claimant where
  | writeback
  | migration
  | patrol
  | verify
  deriving DecidableEq, Repr

/-- Rank 1 under pressure, at 8 entries or more; rank 4 with fewer (R107, R140). -/
def writebackRank (s : State) : Option Nat :=
  if 8 ≤ s.wbQueue.length then some 1 else if 1 ≤ s.wbQueue.length then some 4 else none

/-- Rank 2 when the migration is urgent, rank 6 otherwise, while no step stands (R140, R152). -/
def migrationRank (s : State) : Option Nat :=
  match migrating s, s.engine.step with
  | some r, none => some (if r.urgent then 2 else 6)
  | _, _ => none

/-- Rank 3 with the credits at or above the urgent threshold, rank 7 below it, while a row is in progress (R127, R140). -/
def patrolRank (s : State) : Option Nat :=
  s.patrol.current.map fun _ => if s.params.urgentThreshold ≤ s.patrol.credits then 3 else 7

/-- Rank 5 while an entry is eligible (R113, R140). -/
def verifyRank (s : State) : Option Nat := (nextVerify s).map fun _ => 5

def Claimant.rank (s : State) : Claimant → Option Nat
  | .writeback => writebackRank s
  | .migration => migrationRank s
  | .patrol => patrolRank s
  | .verify => verifyRank s

/-- A claim of the rank is eligible (R141). -/
def eligible (s : State) (rank : Nat) : Bool :=
  match s.hold.state with
  | .inForce => false
  | .idle => rank ≤ 3 || s.quiet.state == .quiet
  | .expired => rank ≤ 3 || s.quiet.state == .quiet

/-- The claimant of the highest rank among the eligible claims (R142). -/
def award (s : State) : Option Claimant :=
  [1, 2, 3, 4, 5, 6, 7].findSome? fun k =>
    if eligible s k then [Claimant.writeback, .migration, .patrol, .verify].find? fun c => c.rank s == some k else none

/-- A background operation is issued: it holds the slot and joins its line's order (R40, R139). -/
def issueBackground (holder : Holder) (o : Op) (s : State) : State := joinOrder o (s.setSlot (some holder))

/-- The head entry is issued (R108). -/
def issueWriteback (s : State) : State :=
  match s.wbQueue with
  | e :: rest =>
    issueBackground (.writeback e.line) ⟨e.line, .writeback e.content, none, .waiting, none⟩ (s.setWbQueue rest)
  | [] => s

/-- The oldest eligible entry is issued, with its open-read entry (R102, R114). -/
def issueVerify (s : State) : State :=
  match nextVerify s with
  | some l =>
    issueBackground (.verify l) ⟨l, .verify, none, .waiting, some false⟩
      (s.setVerifyQueue (s.verifyQueue.filter fun x => x != l))
  | none => s

/-- The next line of the row in progress is issued, with its open-read entry (R102, R128). -/
def issuePatrol (s : State) : State :=
  match s.patrol.current with
  | some c =>
    let l := lineOf (cursorKey s) c
    issueBackground (.patrol l) ⟨l, .patrol, none, .waiting, some false⟩ s
  | none => s

/-- The next step of the migration in progress is issued: the copy of the column at the copy cursor, with its open-read
entry, or the check of the column at the check cursor (R102, R152). -/
def issueStep (s : State) : State :=
  match migrating s with
  | some r =>
    match r.destSpare, r.migration with
    | some d, some m =>
      match m.phase with
      | .copy =>
        let l := lineOf r.key (Fin.ofNat 128 m.copyCursor)
        issueBackground .migration ⟨l, .copyRead, none, .waiting, some false⟩
          (s.setEngine { s.engine with step := some ⟨l, d, .copyRead, false⟩ })
      | .check =>
        let l := lineOf r.key (Fin.ofNat 128 m.checkCursor)
        issueBackground .migration ⟨l, .checkRead, none, .waiting, none⟩
          (s.setEngine { s.engine with step := some ⟨l, d, .checkRead, false⟩ })
    | _, _ => s
  | none => s

/-- The claimant issues what its own rule chooses (R140). -/
def issueFor (c : Claimant) (s : State) : State :=
  match c with
  | .writeback => issueWriteback s
  | .migration => issueStep s
  | .patrol => issuePatrol s
  | .verify => issueVerify s

/-- BACKGROUND_GRANT (R139, R142): takes place when the part is RUNNING, the slot is free and a claim is eligible. -/
def execBackgroundGrant (s : State) : Host.Outcome State Fault Refusal :=
  .next <|
    if s.phase = .running ∧ s.slot = none then
      match award s with
      | some c => issueFor c s
      | none => s
    else s

/-! ### Writebacks -/

/-- WRITEBACK_PERFORM (R108). -/
def execWritebackPerform (s : State) : Host.Outcome State Fault Refusal :=
  .next <| match s.slot with
    | some (.writeback l) =>
      match headOp s l with
      | some o =>
        match o.kind, o.stage with
        | .writeback content, .waiting => issueWrite l (writeTargets s l) content s
        | _, _ => s
      | none => s
    | _ => s

/-- WRITEBACK_COMPLETE (R108): the line holds what the entry held, and the slot is free. -/
def execWritebackComplete (s : State) : Host.Outcome State Fault Refusal :=
  .next <| match s.slot with
    | some (.writeback l) =>
      match completing s l with
      | some o =>
        match o.kind, o.stage with
        | .writeback _, .writing targets content _ =>
          freeSlot (leaveOrder l (followMarked l targets content (writeLine l targets content s)))
        | _, _ => s
      | none => s
    | _ => s

/-! ### Verify reads -/

/-- VERIFY_READ_PERFORM (R114): read whatever the poison list holds. -/
def execVerifyReadPerform (s : State) : Host.Outcome State Fault Refusal :=
  .next <| match s.slot with
    | some (.verify l) =>
      match headOp s l with
      | some o =>
        if o.kind = .verify ∧ o.stage = .waiting then
          let target := readTarget (lineRecord s l) (lineColumn l)
          issueRead l target.1 target.2 s
        else s
      | none => s
    | _ => s

/-- The decode of a verify read is handled (R115), and the slot is free. -/
def finishVerify (l : LineAddr) (o : Op) (d : Decode) (s : State) : State :=
  freeSlot (leaveOrder l (handWriteback d o.overtaken (handEvent d .verify s)))

/-- VERIFY_READ_COMPLETE (R114, R115). -/
def execVerifyReadComplete (damage : StoredLine) (s : State) : Host.Outcome State Fault Refusal :=
  .next <| match s.slot with
    | some (.verify l) =>
      match completing s l with
      | some o =>
        match o.kind, o.stage with
        | .verify, .reading p viaDest _ =>
          let d := readLine s l p damage
          if mustReserve s l p viaDest d then reserve l p s else finishVerify l o d s
        | .verify, .rereading p _ => finishVerify l o (readLine s l p damage) s
        | _, _ => s
      | none => s
    | _ => s

/-! ### Patrol line reads -/

/-- PATROL_LINE_READ_PERFORM (R14, R128): from the row's home, never from a destination, never forwarded. -/
def execPatrolLineReadPerform (s : State) : Host.Outcome State Fault Refusal :=
  .next <| match s.slot with
    | some (.patrol l) =>
      match headOp s l with
      | some o =>
        if o.kind = .patrol ∧ o.stage = .waiting then issueRead l (homePlace (lineRecord s l)) false s else s
      | none => s
    | _ => s

/-- The line index rises by one, and at 128 the row patrol completes and the next may begin (R129, R130). -/
def nextLine (s : State) : State :=
  match s.patrol.current with
  | some c =>
    if h : c.val + 1 < 128 then s.setPatrol { s.patrol with current := some ⟨c.val + 1, h⟩ }
    else beginRow (completeRow s)
  | none => s

/-- PATROL_LINE_READ_COMPLETE (R129). -/
def execPatrolLineReadComplete (damage : StoredLine) (s : State) : Host.Outcome State Fault Refusal :=
  .next <| match s.slot with
    | some (.patrol l) =>
      match completing s l with
      | some o =>
        match o.kind, o.stage with
        | .patrol, .reading p _ _ =>
          let d := readLine s l p damage
          let s := handWriteback d o.overtaken (handEvent d .patrol s)
          nextLine (freeSlot (leaveOrder l s))
        | _, _ => s
      | none => s
    | _ => s

end Sys2Proof.Machine
end

