-- ==== Sys2Proof/Machine/Reports.lean ====
section
/-! DEFINITION. Machine/Reports.lean: the byte layouts of the management port (spec/11, R182, R183). -/

namespace Sys2Proof.Machine

def Status.code : Status → Byte
  | .ok => 0x00
  | .adjusted => 0x01
  | .pending => 0x02
  | .badCommand => 0x10
  | .badArgument => 0x11
  | .notFound => 0x12
  | .wrongState => 0x13
  | .tableFull => 0x14
  | .busy => 0x15

def RecordState.code : RecordState → Byte
  | .watch => 0
  | .suspect => 1
  | .queued => 2
  | .migrating => 3
  | .spared => 4
  | .condemned => 5

def Origin.code : Origin → Byte
  | .hostRead => 0
  | .maskedWrite => 1
  | .patrol => 2
  | .verify => 3
  | .copy => 4
  | .store => 5
  | .command => 6

def MigPhase.code : MigPhase → Byte
  | .copy => 0
  | .check => 1

def Phase.code : Phase → Byte
  | .loading => 0
  | .running => 1

def LinkState.code : LinkState → Byte
  | .down => 0
  | .up => 1
  | .fault => 2

def HoldState.code : HoldState → Byte
  | .idle => 0
  | .inForce => 1
  | .expired => 2

def QuietState.code : QuietState → Byte
  | .notQuiet => 0
  | .settling => 1
  | .quiet => 2

def SpareState.code : SpareState → Byte
  | .free => 0
  | .assigned => 1
  | .burned => 2

/-- A yes or no in one byte: 1 or 0 (log 25). -/
def yesNo (b : Bool) : Byte := if b then 1 else 0

def byteOf (n : Nat) : Byte := BitVec.ofNat 8 n

/-- Presence and flag bits, the first in bit 0 (R182); the bits that no name is given to are sent as 0 (log 29). -/
def bitsByte (l : List Bool) : Byte := l.foldr (fun b acc => acc * 2 + yesNo b) 0

/-- Rank, bank, host row in two bytes (R182). -/
def keyBytes (k : RowKey) : List Byte := [byteOf k.rank.val, byteOf k.bank.val] ++ bytesOf 2 k.row.val

/-- A spare index, or FFh when absent (R182). -/
def optSpareByte : Option SpareIdx → Byte
  | some i => byteOf i.val
  | none => 0xFF

def signatureBytes : Option Signature → List Byte
  | some g => [byteOf g.cell.column.val, byteOf g.cell.word.val, byteOf g.cell.position.val, byteOf g.repeats]
  | none => blanks 4

def migrationBytes : Option MigSub → List Byte
  | some m => [m.phase.code, byteOf m.copyCursor, byteOf m.checkCursor, byteOf m.attempt]
  | none => blanks 4

/-- The count, then four columns in order of addition, FFh beyond the count (R182). -/
def poisonBytes (l : List Column) : List Byte :=
  byteOf l.length :: (l.map (fun c => byteOf c.val) ++ blanks (4 - l.length))

/-- The record report, 28 bytes (R77, R182). -/
def recordReport (r : Record) : List Byte :=
  [byteOf r.slot.val] ++ keyBytes r.key ++ [r.state.code, r.origin.code] ++ bytesOf 2 r.weight ++ bytesOf 2 r.corrections ++
    [bitsByte [r.signature.isSome, r.homeSpare.isSome, r.destSpare.isSome, r.migration.isSome],
      bitsByte [r.urgent, r.overflow, r.pinned, r.blocked, r.persisted, r.persistWanted]] ++
    signatureBytes r.signature ++ [optSpareByte r.homeSpare, optSpareByte r.destSpare] ++ migrationBytes r.migration ++
    poisonBytes r.poison

/-- The EMPTY slots of the store, 0 to 64; a slot whose program is in flight is among them (R167, R178). -/
def emptyCount (v : Vector StoreSlot 64) : Nat := (List.finRange 64).countP fun n => v[n] == .empty

/-- Engine busy, key, phase: FFh while idle (R150, R182). -/
def engineBytes (r : Option Record) : List Byte :=
  match r with
  | some r => 1 :: keyBytes r.key ++ [match r.migration with
    | some m => m.phase.code
    | none => 0xFF]
  | none => 0 :: blanks 5

/-- The status report, 24 bytes (R182, R183); bits 10 to 15 of the attention flags and enables are sent as 0 (log 29). -/
def statusReport (s : State) : List Byte :=
  [s.phase.code, yesNo s.port.restart, s.link.state.code, s.hold.state.code, s.quiet.state.code] ++
    bytesOf 2 s.table.length ++ bytesOf 2 (freeTotal s.spares) ++ engineBytes (migrating s) ++
    [yesNo s.persist.program.isSome, byteOf (emptyCount s.store)] ++ bytesOf 2 s.patrol.passNumber.toNat ++
    [byteOf s.patrol.credits] ++ bytesOf 2 s.attn.flags.toNat ++ bytesOf 2 s.attn.enables.toNat

/-- The record whose home or destination the spare is, with its role: 0 home, 1 destination (R165, R182). -/
def spareOwner (s : State) (p : BankPos) (i : SpareIdx) : Option (Byte × RowKey) :=
  s.table.findSome? fun r =>
    if keyPos r.key = p then
      if r.homeSpare = some i then some (0, r.key) else if r.destSpare = some i then some (1, r.key) else none
    else none

/-- A spare entry, 6 bytes (R182). -/
def spareEntry (s : State) (p : BankPos) (i : SpareIdx) : List Byte :=
  let st := spareState s.spares p i
  match (if st = .assigned then spareOwner s p i else none) with
  | some (role, k) => [st.code, role] ++ keyBytes k
  | none => st.code :: blanks 5

/-- The FREE count, then the 32 spare entries, 193 bytes (R165, R182). -/
def spareMapReport (s : State) (p : BankPos) : List Byte :=
  byteOf (freeCount s.spares p) :: (List.finRange 32).flatMap (spareEntry s p)

/-- Slot, state, kind, rank, bank, host row, spare index; the bytes that a state or kind does not use are FFh (R178, R182). -/
def storeSlotReport (s : State) (n : Fin 64) : List Byte :=
  byteOf n.val :: match s.store[n] with
    | .empty => 0 :: blanks 6
    | .valid (.repair k i) => [1, 0] ++ keyBytes k ++ [byteOf i.val]
    | .valid (.badSpare b) => [1, 1, byteOf (posRank b.pos).val, byteOf (posBank b.pos).val] ++ blanks 2 ++ [byteOf b.idx.val]
    | .burned => 2 :: blanks 6

/-- The lowest-numbered occupied slot above `n` (R76). -/
def nextOccupied (s : State) (n : Fin 256) : Option (Fin 256) :=
  (List.finRange 256).find? fun m => n < m && s.table.any fun r => r.slot == m

/-- Next-present and the next slot (R182). -/
def nextBytes : Option (Fin 256) → List Byte
  | some m => [1, byteOf m.val]
  | none => [0, 0xFF]

/-! ### Parameters -/

/-- The value of a parameter (R185). -/
def Params.get (p : Params) : ParamId → Nat
  | .wHost => p.wHost
  | .wPatrol => p.wPatrol
  | .bonus => p.bonus
  | .tSuspect => p.tSuspect
  | .tSpare => p.tSpare
  | .stuck => p.stuck
  | .decayShift => p.decayShift
  | .period => p.period
  | .bankMask => p.bankMask.toNat
  | .urgentThreshold => p.urgentThreshold
  | .quietThreshold => p.quietThreshold
  | .dwell => p.dwell
  | .holdLimit => p.holdLimit
  | .autoPersist => if p.autoPersist then 1 else 0

/-- A parameter set to a value in its range (R185). -/
def Params.set (p : Params) (v : Nat) : ParamId → Params
  | .wHost => { p with wHost := v }
  | .wPatrol => { p with wPatrol := v }
  | .bonus => { p with bonus := v }
  | .tSuspect => { p with tSuspect := v }
  | .tSpare => { p with tSpare := v }
  | .stuck => { p with stuck := v }
  | .decayShift => { p with decayShift := v }
  | .period => { p with period := v }
  | .bankMask => { p with bankMask := BitVec.ofNat 32 v }
  | .urgentThreshold => { p with urgentThreshold := v }
  | .quietThreshold => { p with quietThreshold := v }
  | .dwell => { p with dwell := v }
  | .holdLimit => { p with holdLimit := v }
  | .autoPersist => { p with autoPersist := v != 0 }

/-- The range of a parameter (R185). -/
def ParamId.range : ParamId → Nat × Nat
  | .wHost => (1, 255)
  | .wPatrol => (1, 255)
  | .bonus => (0, 1023)
  | .tSuspect => (1, 4095)
  | .tSpare => (1, 4095)
  | .stuck => (2, 15)
  | .decayShift => (1, 8)
  | .period => (60, 2880)
  | .bankMask => (0, 4294967295)
  | .urgentThreshold => (1, 64)
  | .quietThreshold => (0, 31)
  | .dwell => (1, 1000)
  | .holdLimit => (1, 1000)
  | .autoPersist => (0, 1)

/-- A value below the range is replaced by the lower bound, a value above it by the upper bound (R186). -/
def ParamId.clamp (id : ParamId) (v : Nat) : Nat := max id.range.1 (min v id.range.2)

/-- T_spare would not stand above T_suspect (R186). -/
def breaksOrder (p : Params) (id : ParamId) (v : Nat) : Bool :=
  match id with
  | .tSpare => v ≤ p.tSuspect
  | .tSuspect => p.tSpare ≤ v
  | _ => false

end Sys2Proof.Machine
end

