-- ==== Sys2Proof/Machine/Port.lean ====
section
/-! DEFINITION. Machine/Port.lean: what each management command does when its owning block takes it up (spec/04, R67 to R79;
spec/09, R163 to R165; spec/10, R177, R178; spec/11, R183 to R193). Each answers with its status and data bytes. -/

namespace Sys2Proof.Machine

/-- The status and data bytes of an answer. -/
abbrev Answer := Status × List Byte

/-- The record of the key is changed, or NOT_FOUND. -/
def onRecord (k : RowKey) (f : Record → State → State × Answer) (s : State) : State × Answer :=
  match lookup s k with
  | some r => f r s
  | none => (s, .notFound, [])

/-! ### Record commands -/

/-- R75. -/
def findRecord (k : RowKey) (s : State) : State × Answer := onRecord k (fun r s => (s, .ok, recordReport r)) s

/-- R76. -/
def readRecord (n : Fin 256) (s : State) : State × Answer :=
  match s.table.find? fun r => r.slot == n with
  | some r => (s, .ok, nextBytes (nextOccupied s n) ++ recordReport r)
  | none => (s, .notFound, nextBytes (nextOccupied s n))

/-- R67. -/
def watchRow (k : RowKey) (s : State) : State × Answer :=
  match lookup s k with
  | some r => (updateRecord k (fun r => { r with pinned := true }) s, .ok, [byteOf r.slot.val])
  | none =>
    match createRecord k .command (fun r => { r with pinned := true }) s with
    | some (r, s) => (s, .ok, [byteOf r.slot.val])
    | none => (s, .tableFull, [])

/-- R78. -/
def pinRecord (k : RowKey) (s : State) : State × Answer :=
  onRecord k (fun _ s => (updateRecord k (fun r => { r with pinned := true }) s, .ok, [])) s

/-- R79. -/
def unpinRecord (k : RowKey) (s : State) : State × Answer :=
  onRecord k (fun _ s => (updateRecord k (fun r => { r with pinned := false }) s, .ok, [])) s

/-- RELEASE is permitted (R72). -/
def Record.releasable (r : Record) : Bool :=
  r.homeSpare.isNone && match r.state with
    | .watch => true
    | .suspect => true
    | .queued => true
    | .condemned => true
    | .migrating => false
    | .spared => false

/-- R72. -/
def releaseRow (k : RowKey) (s : State) : State × Answer :=
  onRecord k (fun r s => if r.releasable then (releaseRecord k s, .ok, []) else (s, .wrongState, [])) s

/-! ### Sparing commands -/

/-- The record is queued urgent with its block cleared (R163). -/
def forceQueue (k : RowKey) (s : State) : State :=
  enqueue k true (updateRecord k (fun r => { r with blocked := false }) s)

/-- R68, R163. -/
def forceSpareRow (k : RowKey) (s : State) : State × Answer :=
  match lookup s k with
  | some r =>
    match r.state with
    | .watch => (forceQueue k s, .ok, [])
    | .suspect => (forceQueue k s, .ok, [])
    | .spared => (forceQueue k s, .ok, [])
    | .condemned =>
      if freeCount s.spares (keyPos k) = 0 then (s, .wrongState, []) else (forceQueue k s, .ok, [])
    | .queued => (enqueue k true s, .ok, [])
    | .migrating => (s, .wrongState, [])
  | none =>
    match createRecord k .command id s with
    | some (_, s) => (enqueue k true s, .ok, [])
    | none => (s, .tableFull, [])

/-- The record after ABORT_MIGRATION: SPARED on its home spare, or SUSPECT, with its block set (R164). -/
def Record.abort (r : Record) : Record :=
  { r.settle (if r.homeSpare.isSome then .spared else .suspect) with blocked := true }

/-- The migration in progress is stopped: its destination is FREE again (R164). -/
def abortMigrating (r : Record) (s : State) : State :=
  let s := match r.destSpare with
    | some d => setSpare (keyPos r.key) d .free s
    | none => s
  let s := orphanStep (s.setEngine { s.engine with marked := [] })
  serveQueue (updateRecord r.key Record.abort s)

/-- R164. -/
def abortRow (k : RowKey) (s : State) : State × Answer :=
  onRecord k (fun r s =>
    match r.state with
    | .migrating => (abortMigrating r s, .ok, [])
    | .queued => (updateRecord k Record.abort (s.setQueue (s.queue.remove k)), .ok, [])
    | .watch => (s, .wrongState, [])
    | .suspect => (s, .wrongState, [])
    | .spared => (s, .wrongState, [])
    | .condemned => (s, .wrongState, [])) s

/-- R165. -/
def readSpareMap (p : BankPos) (s : State) : State × Answer := (s, .ok, spareMapReport s p)

/-! ### Store commands -/

/-- R177. -/
def persistRow (k : RowKey) (s : State) : State × Answer :=
  onRecord k (fun r s =>
    if r.persisted then (s, .ok, [])
    else if r.state = .spared then
      (startPersist (updateRecord k (fun r => { r with persistWanted := true }) s), .ok, [])
    else (s, .wrongState, [])) s

/-- R178. -/
def readStoreSlot (n : Fin 64) (s : State) : State × Answer := (s, .ok, storeSlotReport s n)

/-! ### Commands of the port itself -/

/-- R183. -/
def readStatus_ (s : State) : State × Answer := (s, .ok, statusReport s)

/-- What a setting does beyond the parameter (R125, R136, R185). -/
def paramChanged (id : ParamId) (s : State) : State :=
  match id with
  | .period => restartPace s
  | .bankMask => maskChanged s
  | .quietThreshold => s.setQuiet (s.quiet.report s.params s.quiet.lastOccupancy)
  | _ => s

/-- Identifier and value, five bytes (R182). -/
def paramBytes (id : ParamId) (v : Nat) : List Byte := id.code :: bytesOf 4 v

/-- R186. -/
def setParameter (id : ParamId) (value : BitVec 32) (s : State) : State × Answer :=
  let v := id.clamp value.toNat
  if breaksOrder s.params id v then (s, .badArgument, [])
  else (paramChanged id (s.setParams (s.params.set v id)), if v = value.toNat then .ok else .adjusted, paramBytes id v)

/-- R187. -/
def getParameter (id : ParamId) (s : State) : State × Answer := (s, .ok, paramBytes id (s.params.get id))

/-- R190. -/
def readAllCounters (s : State) : State × Answer := (s, .ok, s.counters.inOrder.flatMap (bytesOf 4))

/-- R191. -/
def clearAllCounters (s : State) : State × Answer := (s.setCounters Counters.zero, .ok, [])

/-- R192. -/
def acknowledge (flags : BitVec 10) (s : State) : State × Answer :=
  (s.setAttn { s.attn with flags := s.attn.flags &&& ~~~flags }, .ok, [])

/-- R193. -/
def enableFlags (enables : BitVec 10) (s : State) : State × Answer :=
  (s.setAttn { s.attn with enables := enables }, .ok, [])

/-- A command is taken up whole by its owning block (R181). -/
def takeUp (c : PortCommand) (s : State) : State × Answer :=
  match c with
  | .status => readStatus_ s
  | .findRecord k => findRecord k s
  | .readRecord n => readRecord n s
  | .watchRow k => watchRow k s
  | .pin k => pinRecord k s
  | .unpin k => unpinRecord k s
  | .release k => releaseRow k s
  | .forceSpare k => forceSpareRow k s
  | .abortMigration k => abortRow k s
  | .spareMap p => readSpareMap p s
  | .persist k => persistRow k s
  | .readStore n => readStoreSlot n s
  | .setParam id v => setParameter id v s
  | .getParam id => getParameter id s
  | .readCounters => readAllCounters s
  | .clearCounters => clearAllCounters s
  | .ackAttention f => acknowledge f s
  | .setAttentionMask e => enableFlags e s

end Sys2Proof.Machine
end

