-- ==== Sys2Proof/Machine/Commands.lean ====
section
/-! DEFINITION. Machine/Commands.lean: the transactions of the management port: the checks, dispatch and take-up of
commands, response transactions and CLEAR (spec/11, R179 to R181, R184, R194). -/

namespace Sys2Proof.Machine

/-! ### Transactions -/

/-- The bits that the transaction shifts out. -/
def shiftOut (bits : List Bool) (s : State) : State := s.setPort { s.port with spiOut := bits }

/-- What a command transaction shifts out: FFh, eight ones, for its code and for each of `n` argument bytes, and the first
bits of one more FFh for the bits of a partial byte (R179). -/
def commandOut (n : Nat) (tail : Fin 8) : List Bool := List.replicate (8 * (n + 1) + tail.val) true

/-- The answer of a command stands as the held response (R180). -/
def answer (a : Answer) (isReport : Bool) (s : State) : State :=
  s.setPort { s.port with held := some ⟨a.1, a.2, isReport⟩ }

/-- The response of an earlier command still to come is discarded (R180). -/
def discardAwaited (s : State) : State :=
  s.setPort { s.port with awaiting := s.port.awaiting.map fun a => { a with discarded := true } }

/-- The command is STATUS: its answer is a status report. -/
def PortCommand.isStatus : PortCommand → Bool
  | .status => true
  | _ => false

/-- The command's code is that of STATUS, which the phase check admits in LOADING (R181, R183). -/
def statusCode : Byte := 0x01

/-- A command is taken up and answered at once. -/
def takeUpNow (c : PortCommand) (s : State) : State :=
  let r := takeUp c s
  answer r.2 c.isStatus r.1

/-- A command is dispatched and awaits its take-up; its response stands as PENDING (R180, R181). -/
def dispatchLater (c : PortCommand) (s : State) : State :=
  s.setPort { s.port with held := some ⟨.pending, [], false⟩, awaiting := some ⟨c, false⟩ }

/-- The phase check and the take-up check stop a command (R181). -/
def busyFor (code : Byte) (s : State) : Bool :=
  (s.phase == .loading && code != statusCode) || s.port.awaiting.isSome

/-- The checks of R181 on a complete command transaction, in their order; a command that passes is dispatched, and taken
up at once when `prompt`. -/
def checkAndDispatch (code : Byte) (args : List Byte) (prompt : Bool) (s : State) : State :=
  match commandTable code with
  | none => answer (.badCommand, []) false s
  | some (n, parse) =>
    if args.length ≠ n then answer (.badArgument, []) false s
    else if busyFor code s then answer (.busy, []) false s
    else match parse args with
      | none => answer (.badArgument, []) false s
      | some c => if prompt then takeUpNow c s else dispatchLater c s

/-- A command transaction other than CLEAR (R179, R180): FFh is shifted out. A partial one is discarded whole. -/
def commandTransaction (code : Byte) (args : List Byte) (tail : Fin 8) (prompt : Bool) (s : State) : State :=
  let s := shiftOut (commandOut args.length tail) s
  if tail = 0 then checkAndDispatch code args prompt (discardAwaited s) else s

/-- The bytes of a response transaction after its first: the held response, then FFh (R180). -/
def responseBytes (held : Option Held) (n : Nat) : List Byte :=
  match held with
  | some h => ((h.status.code :: h.data) ++ blanks n).take n
  | none => blanks n

/-- What a response transaction shifts out after its first byte: `bytes` bytes, and the first bits of the byte after them for
the bits of a partial byte (R179, R180). -/
def responseOut (held : Option Held) (bytes : Nat) (tail : Fin 8) : List Bool :=
  (bitsOf (responseBytes held (bytes + 1))).take (8 * bytes + tail.val)

/-- The held response is a STATUS response that reports the restart flag set (R184). -/
def Held.reportsRestart (h : Held) : Bool := h.isReport && h.data[1]? == some 1

/-- The transaction clocks out a STATUS response in full, status byte and all 24 data bytes, and it reports the restart flag
set (R184). A partial transaction is discarded (R179, log 7). -/
def clocksRestart (held : Option Held) (bytes : Nat) (tail : Fin 8) : Bool :=
  match held with
  | some h => h.reportsRestart && 25 ≤ bytes && tail == 0
  | none => false

/-- A response transaction (R180, R184): `bytes` bytes after the 00h, and the bits of a partial byte. -/
def responseTransactionOf (bytes : Nat) (tail : Fin 8) (s : State) : State :=
  let held := s.port.held
  let s := shiftOut (responseOut held bytes tail) s
  if clocksRestart held bytes tail then s.setPort { s.port with restart := false } else s

/-- CLEAR passes its checks (R181, R194): the held response and an awaited one are discarded, every attention flag is
cleared, and OK is the held response. -/
def clearPort (s : State) : State :=
  answer (.ok, []) false ((discardAwaited s).setAttn { s.attn with flags := 0 })

/-- A CLEAR transaction (R181, R194). -/
def clearTransaction (args : List Byte) (tail : Fin 8) (s : State) : State :=
  let s := shiftOut (commandOut args.length tail) s
  if tail = 0 then
    if args.length ≠ 0 then answer (.badArgument, []) false (discardAwaited s)
    else if s.phase = .loading then answer (.busy, []) false (discardAwaited s)
    else clearPort s
  else s

/-! ### The commands of the table -/

/-- RESPONSE_TRANSACTION (R180, R184). -/
def execResponseTransaction (bytes : Nat) (tail : Fin 8) (s : State) : Host.Outcome State Fault Refusal :=
  .next (responseTransactionOf bytes tail s)

/-- UNASSIGNED_COMMAND (R181). A first byte that is no unassigned code opens what that byte opens (R179). -/
def execUnassignedCommand (code : Byte) (args : List Byte) (tail : Fin 8) (s : State) : Host.Outcome State Fault Refusal :=
  .next <|
    if code = 0 then responseTransactionOf args.length tail s
    else if code = clearCode then clearTransaction args tail s
    else commandTransaction code args tail true s

/-- STATUS, 01h (R183). -/
def execStatus (args : List Byte) (tail : Fin 8) (prompt : Bool) (s : State) : Host.Outcome State Fault Refusal :=
  .next (commandTransaction statusCode args tail prompt s)

/-- FIND_RECORD, 10h (R75). -/
def execFindRecord (args : List Byte) (tail : Fin 8) (prompt : Bool) (s : State) : Host.Outcome State Fault Refusal :=
  .next (commandTransaction 0x10 args tail prompt s)

/-- READ_RECORD, 11h (R76). -/
def execReadRecord (args : List Byte) (tail : Fin 8) (prompt : Bool) (s : State) : Host.Outcome State Fault Refusal :=
  .next (commandTransaction 0x11 args tail prompt s)

/-- WATCH_ROW, 12h (R67). -/
def execWatchRow (args : List Byte) (tail : Fin 8) (prompt : Bool) (s : State) : Host.Outcome State Fault Refusal :=
  .next (commandTransaction 0x12 args tail prompt s)

/-- PIN, 13h (R78). -/
def execPin (args : List Byte) (tail : Fin 8) (prompt : Bool) (s : State) : Host.Outcome State Fault Refusal :=
  .next (commandTransaction 0x13 args tail prompt s)

/-- UNPIN, 14h (R79). -/
def execUnpin (args : List Byte) (tail : Fin 8) (prompt : Bool) (s : State) : Host.Outcome State Fault Refusal :=
  .next (commandTransaction 0x14 args tail prompt s)

/-- RELEASE, 15h (R72). -/
def execRelease (args : List Byte) (tail : Fin 8) (prompt : Bool) (s : State) : Host.Outcome State Fault Refusal :=
  .next (commandTransaction 0x15 args tail prompt s)

/-- FORCE_SPARE, 20h (R163). -/
def execForceSpare (args : List Byte) (tail : Fin 8) (prompt : Bool) (s : State) : Host.Outcome State Fault Refusal :=
  .next (commandTransaction 0x20 args tail prompt s)

/-- ABORT_MIGRATION, 21h (R164). -/
def execAbortMigration (args : List Byte) (tail : Fin 8) (prompt : Bool) (s : State) : Host.Outcome State Fault Refusal :=
  .next (commandTransaction 0x21 args tail prompt s)

/-- SPARE_MAP, 22h (R165). -/
def execSpareMap (args : List Byte) (tail : Fin 8) (prompt : Bool) (s : State) : Host.Outcome State Fault Refusal :=
  .next (commandTransaction 0x22 args tail prompt s)

/-- PERSIST, 30h (R177). -/
def execPersist (args : List Byte) (tail : Fin 8) (prompt : Bool) (s : State) : Host.Outcome State Fault Refusal :=
  .next (commandTransaction 0x30 args tail prompt s)

/-- READ_STORE, 31h (R178). -/
def execReadStore (args : List Byte) (tail : Fin 8) (prompt : Bool) (s : State) : Host.Outcome State Fault Refusal :=
  .next (commandTransaction 0x31 args tail prompt s)

/-- SET_PARAM, 40h (R186). -/
def execSetParam (args : List Byte) (tail : Fin 8) (prompt : Bool) (s : State) : Host.Outcome State Fault Refusal :=
  .next (commandTransaction 0x40 args tail prompt s)

/-- GET_PARAM, 41h (R187). -/
def execGetParam (args : List Byte) (tail : Fin 8) (prompt : Bool) (s : State) : Host.Outcome State Fault Refusal :=
  .next (commandTransaction 0x41 args tail prompt s)

/-- READ_COUNTERS, 50h (R190). -/
def execReadCounters (args : List Byte) (tail : Fin 8) (prompt : Bool) (s : State) : Host.Outcome State Fault Refusal :=
  .next (commandTransaction 0x50 args tail prompt s)

/-- CLEAR_COUNTERS, 51h (R191). -/
def execClearCounters (args : List Byte) (tail : Fin 8) (prompt : Bool) (s : State) : Host.Outcome State Fault Refusal :=
  .next (commandTransaction 0x51 args tail prompt s)

/-- ACK_ATTENTION, 60h (R192). -/
def execAckAttention (args : List Byte) (tail : Fin 8) (prompt : Bool) (s : State) : Host.Outcome State Fault Refusal :=
  .next (commandTransaction 0x60 args tail prompt s)

/-- SET_ATTENTION_MASK, 61h (R193). -/
def execSetAttentionMask (args : List Byte) (tail : Fin 8) (prompt : Bool) (s : State) : Host.Outcome State Fault Refusal :=
  .next (commandTransaction 0x61 args tail prompt s)

/-- CLEAR, 7Fh (R194). -/
def execClear (args : List Byte) (tail : Fin 8) (s : State) : Host.Outcome State Fault Refusal :=
  .next (clearTransaction args tail s)

/-- COMMAND_TAKE_UP (R180, R181): its response replaces PENDING unless it has been discarded. -/
def execCommandTakeUp (s : State) : Host.Outcome State Fault Refusal :=
  .next <| match s.port.awaiting with
    | some a =>
      let r := takeUp a.command (s.setPort { s.port with awaiting := none })
      if a.discarded then r.1 else answer r.2 a.command.isStatus r.1
    | none => s

/-! ### The arrival of bits -/

/-- The command of a transaction's first byte, its other bytes and the bits of a partial byte: 00h opens a response
transaction, any other value is a command code (R179, R182). -/
def transactionOf (first : Byte) (args : List Byte) (tail : Fin 8) (prompt : Bool) : Instr :=
  match first.toNat with
  | 0x00 => .responseTransaction args.length tail
  | 0x01 => .status args tail prompt
  | 0x10 => .findRecord args tail prompt
  | 0x11 => .readRecord args tail prompt
  | 0x12 => .watchRow args tail prompt
  | 0x13 => .pin args tail prompt
  | 0x14 => .unpin args tail prompt
  | 0x15 => .release args tail prompt
  | 0x20 => .forceSpare args tail prompt
  | 0x21 => .abortMigration args tail prompt
  | 0x22 => .spareMap args tail prompt
  | 0x30 => .persist args tail prompt
  | 0x31 => .readStore args tail prompt
  | 0x40 => .setParam args tail prompt
  | 0x41 => .getParam args tail prompt
  | 0x50 => .readCounters args tail prompt
  | 0x51 => .clearCounters args tail prompt
  | 0x60 => .ackAttention args tail prompt
  | 0x61 => .setAttentionMask args tail prompt
  | 0x7F => .clear args tail
  | _ => .unassignedCommand first args tail

/-- The command that the bits sampled between the assertion of chip-select and its deassertion are, the first bit first
(R179). None when no byte has been received: such a transaction opens neither kind and has no effect. The second argument is
the promptness of the take-up (log 4). -/
def readTransaction (bits : List Bool) (prompt : Bool) : Option Instr :=
  match receivedBytes bits with
  | [] => none
  | first :: args => some (transactionOf first args (Fin.ofNat 8 bits.length) prompt)

end Sys2Proof.Machine
end

