-- ==== Sys2Proof/Machine/FrontLink.lean ====
section
/-! DEFINITION. Machine/FrontLink.lean: the arrival of frames on the front link (spec/03, R30 to R42). -/

namespace Sys2Proof.Machine

/-- The link enters FAULT from UP (R39). -/
def faultLink (s : State) : State := raise .linkFault (s.setLink { s.link with state := .fault })

/-- Every outstanding request becomes an orphan (R34). -/
def orphanAll (s : State) : State := reportOccupancy (s.setOps (s.ops.map fun o => { o with tag := none }))

/-- A link reset begins (R32, R34). -/
def beginLinkReset (s : State) : State := s.setLink ⟨.down, true, false⟩

/-- RESET_BEGIN (R32). -/
def execResetBegin (s : State) : Host.Outcome State Fault Refusal :=
  .next <| match s.link.state with
    | .down => beginLinkReset s
    | .up => orphanAll (beginLinkReset s)
    | .fault => orphanAll (beginLinkReset s)

/-- RESET_END (R30, R32, R37). -/
def execResetEnd (s : State) : Host.Outcome State Fault Refusal :=
  .next <| match s.link.state with
    | .down =>
      if s.link.resetInProgress then
        match s.phase with
        | .running => (s.setLink ⟨.up, false, false⟩).setLinkOut (s.linkOut ++ [.ready])
        | .loading => s.setLink ⟨.down, false, true⟩
      else s
    | .up => faultLink s
    | .fault => s

/-- BAD_FRAME (R37, R39): whatever makes the frame bad, nothing of its contents is used. -/
def execBadFrame (_cause : BadFrameCause) (s : State) : Host.Outcome State Fault Refusal :=
  .next <| match s.link.state with
    | .up => faultLink s
    | .down => s
    | .fault => s

/-- The arrival of a good request frame (R30, R38): discarded unless the link is UP; FAULT on a held tag; else taken. -/
def arrive (tag : Tag) (taken : State → State) (s : State) : State :=
  match s.link.state with
  | .up => if tagHeld s tag then faultLink s else reportOccupancy (taken s)
  | .down => s
  | .fault => s

/-- RD (R38): taken, with its open-read entry (R102). -/
def execRd (tag : Tag) (line : LineAddr) (s : State) : Host.Outcome State Fault Refusal :=
  .next <| arrive tag (joinOrder ⟨line, .rd, some tag, .waiting, some false⟩) s

/-- WR (R38): taken, with its write notice (R42). -/
def execWr (tag : Tag) (line : LineAddr) (data : LineData) (s : State) : Host.Outcome State Fault Refusal :=
  .next <| arrive tag (fun s => joinOrder ⟨line, .wr data, some tag, .waiting, none⟩ (writeNotice line s)) s

/-- MWR (R38): taken, its write notice (R42) ahead of its own open-read entry (R102). -/
def execMwr (tag : Tag) (line : LineAddr) (data : LineData) (enables : BitVec 64) (s : State) :
    Host.Outcome State Fault Refusal :=
  .next <| arrive tag
    (fun s => joinOrder ⟨line, .mwr data enables, some tag, .waiting, some false⟩ (writeNotice line s)) s

end Sys2Proof.Machine
end

