-- ==== Sys2Proof/Machine/Gate.lean ====
section
/-! DEFINITION. Machine/Gate.lean: HOLD_N and the expiries of the hold, dwell and pace timers (spec/08, R136 to R138; spec/07,
R123). An event that the spec says does not take place changes nothing (log 1). -/

namespace Sys2Proof.Machine

/-- HOLD_N_ASSERTION (R137): in IDLE, HOLD is in force and the hold timer starts. -/
def execHoldNAssertion (s : State) : Host.Outcome State Fault Refusal :=
  .next <| match s.hold.state with
    | .idle => s.setHold ⟨.inForce, some s.params.holdLimit⟩
    | .inForce => s
    | .expired => s

/-- HOLD_N_DEASSERTION (R137): IDLE, the timer stopped. -/
def execHoldNDeassertion (s : State) : Host.Outcome State Fault Refusal :=
  .next <| match s.hold.state with
    | .idle => s
    | .inForce => s.setHold ⟨.idle, none⟩
    | .expired => s.setHold ⟨.idle, none⟩

/-- HOLD_TIMER_EXPIRY (R138). -/
def execHoldTimerExpiry (s : State) : Host.Outcome State Fault Refusal :=
  .next <| match s.hold.state with
    | .inForce => raise .holdExpired (count .holdExpired (s.setHold ⟨.expired, none⟩))
    | .idle => s
    | .expired => s

/-- DWELL_TIMER_EXPIRY (R136): from SETTLING to QUIET. -/
def execDwellTimerExpiry (s : State) : Host.Outcome State Fault Refusal :=
  .next <| match s.quiet.state with
    | .settling => s.setQuiet { s.quiet with state := .quiet, dwellTimer := none }
    | .notQuiet => s
    | .quiet => s

/-- The credit of an expiry is earned, or lost at 64 (R123). -/
def earnCredit (s : State) : State :=
  if s.patrol.credits < 64 then s.setPatrol { s.patrol with credits := s.patrol.credits + 1 }
  else raise .patrolLate (count .patrolOverrun s)

/-- PACE_TIMER_EXPIRY (R122, R123): a credit, the next interval of the same length at once, and the row patrol that may
begin. -/
def execPaceTimerExpiry (s : State) : Host.Outcome State Fault Refusal :=
  .next <| match s.patrol.paceTimer with
    | some _ => beginRow (earnCredit s)
    | none => s

end Sys2Proof.Machine
end

