-- ==== Sys2Proof/Machine/Migration.lean ====
section
/-! DEFINITION. Machine/Migration.lean: the copy and check steps (spec/09, R152 to R160). -/

namespace Sys2Proof.Machine

/-- The migration step that stands, at the given stage of an operation of the given kind, with the operation at the head
of its line's order. -/
def stepOp (s : State) (kind : OpKind) (find : State → LineAddr → Option Op) : Option (MigStep × Op) :=
  match s.engine.step with
  | some st => ((find s st.line).filter fun o => o.kind == kind).map fun o => (st, o)
  | none => none

/-- COPY_READ_PERFORM (R14, R153): from the source, not forwarded, whatever the poison list holds. -/
def execCopyReadPerform (s : State) : Host.Outcome State Fault Refusal :=
  .next <| match stepOp s .copyRead headOp with
    | some (st, o) =>
      if o.stage = .waiting then issueRead st.line (homePlace (lineRecord s st.line)) false s else s
    | none => s

/-- What the copy write will write (R153). -/
def copyContent (d : Decode) : LineContent :=
  match d.outcome with
  | .clean => .data d.data
  | .corrected => .data d.data
  | .mark => .mark
  | .uncorrectable => .mark

/-- After the copy read: a leftover step has no copy write (R160); a host write standing on the line cancels it (R155);
otherwise it is issued (R154). -/
def afterCopyRead (st : MigStep) (content : LineContent) (s : State) : State :=
  if st.leftover then endStep s
  else if writeStands s st.line then
    s.setEngine { s.engine with step := some { st with stage := .awaitHost content } }
  else issueCopyWrite st.line content s

/-- COPY_READ_COMPLETE (R153). -/
def execCopyReadComplete (damage : StoredLine) (s : State) : Host.Outcome State Fault Refusal :=
  .next <| match stepOp s .copyRead completing with
    | some (st, o) =>
      match o.stage with
      | .reading p _ _ =>
        let d := readLine s st.line p damage
        let s := handMark d o.overtaken (handEvent d .copy s)
        afterCopyRead st (copyContent d) (leaveOrder st.line s)
      | _ => s
    | none => s

/-- COPY_WRITE_COMPLETE (R154, R160). -/
def execCopyWriteComplete (s : State) : Host.Outcome State Fault Refusal :=
  .next <| match stepOp s .copyWrite completing with
    | some (st, o) =>
      match o.stage with
      | .writing targets content _ =>
        let s := leaveOrder st.line (writeLine st.line targets content s)
        if st.leftover then endStep s else endColumn st.line (followMarked st.line targets content s)
      | _ => s
    | none => s

/-- CHECK_READ_PERFORM (R14, R152): from the destination. -/
def execCheckReadPerform (s : State) : Host.Outcome State Fault Refusal :=
  .next <| match stepOp s .checkRead headOp with
    | some (st, o) => if o.stage = .waiting then issueRead st.line (.spare st.dest) true s else s
    | none => s

/-- The decode of a check read passes (R157). -/
def checkPasses (marked : Bool) : LineOutcome → Bool
  | .clean => true
  | .mark => true
  | .corrected => false
  | .uncorrectable => marked

/-- A pass raises the check cursor, and at 128 the migration completes (R157, R162). -/
def passCheck (r : Record) (d : SpareIdx) (s : State) : State :=
  match r.migration with
  | some m =>
    if m.checkCursor + 1 = 128 then completeMigration r d s
    else updateRecord r.key (fun r => { r with migration := some { m with checkCursor := m.checkCursor + 1 } }) s
  | none => s

/-- The check read's decode is judged (R157, R159). -/
def judgeCheck (st : MigStep) (outcome : LineOutcome) (s : State) : State :=
  match lineRecord s st.line with
  | some r =>
    if checkPasses (s.engine.marked.contains (lineColumn st.line)) outcome then passCheck r st.dest s
    else failAttempt r st.dest s
  | none => s

/-- CHECK_READ_COMPLETE (R157); the decode of a leftover check read is reported to no one (R160). -/
def execCheckReadComplete (damage : StoredLine) (s : State) : Host.Outcome State Fault Refusal :=
  .next <| match stepOp s .checkRead completing with
    | some (st, o) =>
      match o.stage with
      | .reading p _ _ =>
        let d := readLine s st.line p damage
        let s := endStep (leaveOrder st.line s)
        if st.leftover then s else judgeCheck st d.outcome s
      | _ => s
    | none => s

end Sys2Proof.Machine
end

