-- ==== Sys2Proof/Machine/Requests.lean ====
section
/-! DEFINITION. Machine/Requests.lean: the performance of host reads, writes and masked writes (spec/03, R43 to R51). A line
names the operation at the head of its order; a step that is not that operation's next step does not take place (log 1). -/

namespace Sys2Proof.Machine

/-- A host request completes: it leaves its line's order, and, unless it is an orphan, its return is sent, which frees
the tag (R51, R52). -/
def finishRequest (l : LineAddr) (o : Op) (frame : Tag → OutFrame) (s : State) : State :=
  let s := leaveOrder l s
  match o.tag with
  | some t => reportOccupancy (s.setLinkOut (s.linkOut ++ [frame t]))
  | none => s

/-! ### Reads -/

/-- The status of a read return is settled at the read's completion; a POISONED return carries zeros (R47). -/
def completeRead (l : LineAddr) (o : Op) (status : ReadStatus) (data : LineData) (s : State) : State :=
  let status := if listsColumn (lineRecord s l) (lineColumn l) then .poisoned else status
  finishRequest l o (fun t => .rret t status (if status = .poisoned then 0 else data)) s

/-- The status that a decode gives a read (R44). -/
def readStatus : LineOutcome → ReadStatus
  | .clean => .clean
  | .corrected => .corrected
  | .uncorrectable => .poisoned
  | .mark => .poisoned

/-- The decode of a media read of the home or source is handled (R44, R46). -/
def finishRead (l : LineAddr) (o : Op) (d : Decode) (s : State) : State :=
  let s := handEvent d .hostRead s
  let s := handVerify d (handWriteback d o.overtaken s)
  let s := if d.outcome = .mark then count .poisonReads s else s
  completeRead l o (readStatus d.outcome) d.data s

/-- The issue of a read (R43). -/
def performRead (l : LineAddr) (o : Op) (s : State) : State :=
  let r := lineRecord s l
  if listsColumn r (lineColumn l) then completeRead l o .poisoned 0 (count .poisonReads s)
  else match (wbEntry s l).map WbEntry.content with
    | some (.data d) => completeRead l o .clean d s
    | some .mark => completeRead l o .poisoned 0 (count .poisonReads s)
    | none =>
      let target := readTarget r (lineColumn l)
      issueRead l target.1 target.2 s

/-- RD_ISSUE (R43). -/
def execRdIssue (line : LineAddr) (s : State) : Host.Outcome State Fault Refusal :=
  .next <| match headOp s line with
    | some o => if o.kind = .rd ∧ o.stage = .waiting then performRead line o s else s
    | none => s

/-- RD_MEDIA_READ_COMPLETE (R44, R45). -/
def execRdMediaReadComplete (line : LineAddr) (damage : StoredLine) (s : State) : Host.Outcome State Fault Refusal :=
  .next <| match completing s line with
    | some o =>
      match o.kind, o.stage with
      | .rd, .reading p viaDest _ =>
        let d := readLine s line p damage
        if mustReserve s line p viaDest d then reserve line p s else finishRead line o d s
      | .rd, .rereading p _ => finishRead line o (readLine s line p damage) s
      | _, _ => s
    | none => s

/-! ### Writes -/

/-- The issue of the media writes of a WR, or of an MWR's write half: the column leaves the poison list, and the line is
written to the targets that routing gives (R48, R50). -/
def performWrite (l : LineAddr) (data : LineData) (s : State) : State :=
  let s := clearPoison l s
  issueWrite l (writeTargets s l) (.data data) s

/-- The last media write of a host write completes: the line holds the data, and the write is answered DONE (R48, R50). A
copy step that waits for it ends its column (R155). -/
def finishWrite (l : LineAddr) (o : Op) (targets : List Place) (content : LineContent) (s : State) : State :=
  let s := followMarked l targets content (writeLine l targets content s)
  finishRequest l o (fun t => .wret t .done) (hostWriteEndsColumn l s)

/-- WR_ISSUE (R48). -/
def execWrIssue (line : LineAddr) (s : State) : Host.Outcome State Fault Refusal :=
  .next <| match headOp s line with
    | some o =>
      match o.kind, o.stage with
      | .wr data, .waiting => performWrite line data s
      | _, _ => s
    | none => s

/-- WR_WRITE_COMPLETE (R48). -/
def execWrWriteComplete (line : LineAddr) (s : State) : Host.Outcome State Fault Refusal :=
  .next <| match completing s line with
    | some o =>
      match o.kind, o.stage with
      | .wr _, .writing targets content _ => finishWrite line o targets content s
      | _, _ => s
    | none => s

/-! ### Masked writes -/

/-- An MWR ends without a write: POISON_KEPT (R49), and a copy step that waits for it goes on (R156). -/
def keepPoison (l : LineAddr) (o : Op) (s : State) : State :=
  hostWriteGivenUp l (finishRequest l o (fun t => .wret t .poisonKept) s)

/-- The open-read entry of the operation at the head of the line's order leaves (R102). -/
def closeRead (l : LineAddr) (s : State) : State :=
  s.setOps (modifyFirst (fun o => o.line == l) (fun o => { o with openRead := none }) s.ops)

/-- The decode of a read half is handled (R49), and the write half is issued (R50). -/
def finishReadHalf (l : LineAddr) (o : Op) (data : LineData) (enables : BitVec 64) (d : Decode) (s : State) : State :=
  let s := handMark d o.overtaken (handEvent d .maskedWrite s)
  match d.outcome with
  | .clean => performWrite l (mergeBytes d.data data enables) (closeRead l s)
  | .corrected => performWrite l (mergeBytes d.data data enables) (closeRead l s)
  | .uncorrectable => keepPoison l o s
  | .mark => keepPoison l o s

/-- MWR_READ_HALF_ISSUE (R49). -/
def execMwrReadHalfIssue (line : LineAddr) (s : State) : Host.Outcome State Fault Refusal :=
  .next <| match headOp s line with
    | some o =>
      match o.kind, o.stage with
      | .mwr _ _, .waiting =>
        let r := lineRecord s line
        if listsColumn r (lineColumn line) then keepPoison line o s
        else
          let target := readTarget r (lineColumn line)
          issueRead line target.1 target.2 s
      | _, _ => s
    | none => s

/-- MWR_READ_HALF_COMPLETE (R45, R49, R50). -/
def execMwrReadHalfComplete (line : LineAddr) (damage : StoredLine) (s : State) : Host.Outcome State Fault Refusal :=
  .next <| match completing s line with
    | some o =>
      match o.kind, o.stage with
      | .mwr data enables, .reading p viaDest _ =>
        let d := readLine s line p damage
        if mustReserve s line p viaDest d then reserve line p s else finishReadHalf line o data enables d s
      | .mwr data enables, .rereading p _ => finishReadHalf line o data enables (readLine s line p damage) s
      | _, _ => s
    | none => s

/-- MWR_WRITE_HALF_COMPLETE (R50). -/
def execMwrWriteHalfComplete (line : LineAddr) (s : State) : Host.Outcome State Fault Refusal :=
  .next <| match completing s line with
    | some o =>
      match o.kind, o.stage with
      | .mwr _ _, .writing targets content _ => finishWrite line o targets content s
      | _, _ => s
    | none => s

end Sys2Proof.Machine
end

