-- ==== Sys2Proof/Machine/Reset.lean ====
section
/-! DEFINITION. Machine/Reset.lean: power-on/RESET_N and the repair store load (spec/10, R168 to R170, R176; the reset rules
of every chapter). -/

namespace Sys2Proof.Machine

/-! ### Power-on and RESET_N -/

/-- The lines that a media write is being made to, with what it writes: the operation is the head of its line's order
(R41) and its media writes are issued. -/
def writesInFlight (s : State) : List (Nat × StoredLine) :=
  s.ops.flatMap fun o =>
    match o.stage with
    | .writing targets content _ =>
      if headOp s o.line = some o then targets.map fun p => (physLine o.line p, content.stored) else []
    | _ => []

/-- The media after the reset (R9): after power-on every line holds whatever its devices hold; RESET_N without loss of
power leaves every line as it was, but for those whose write was in flight. -/
def mediaAfterReset (powerLost : Bool) (s : State) : Media :=
  if powerLost then { s.media with lines := [], powerCycles := s.media.powerCycles + 1 }
  else (writesInFlight s).foldl (fun m w => m.tear w.1 w.2) s.media

/-- The store after the reset: a program in flight leaves its slot BURNED (R176). -/
def storeAfterReset (s : State) : Vector StoreSlot 64 :=
  match s.persist.program with
  | some p => s.store.set p.slot.val .burned
  | none => s.store

/-- Hold Control samples HOLD_N (R137). -/
def holdAfterReset (asserted : Bool) : Hold :=
  if asserted then ⟨.inForce, some Params.default.holdLimit⟩ else ⟨.idle, none⟩

/-- POWER_ON_RESET (R168): every volatile block takes its reset values and the load begins. The frames already sent and
the commands that wait are no state of the part (log 16, log 22). -/
def execPowerOnReset (powerLost holdAsserted : Bool) (s : State) : Host.Outcome State Fault Refusal :=
  .next <| ((((State.reset.setHold (holdAfterReset holdAsserted)).setStore (storeAfterReset s)).setMedia
    (mediaAfterReset powerLost s)).setLinkOut s.linkOut).setPending s.pending

/-! ### The load -/

def StoreSlot.item? : StoreSlot → Option StoreItem
  | .valid item => some item
  | .empty => none
  | .burned => none

/-- The next VALID slot that the load has not processed; EMPTY and BURNED slots are passed over (R168, R169). -/
def nextValid (s : State) : Option (Fin 64 × StoreItem) :=
  (List.finRange 64).findSome? fun n => if s.loadNext ≤ n.val then s.store[n].item?.map fun i => (n, i) else none

/-- The spare is the home spare of a record that `p` holds of, in the bank position (R169, R170). -/
def isHome (s : State) (pos : BankPos) (i : SpareIdx) (p : Record → Bool) : Bool :=
  s.table.any fun r => keyPos r.key == pos && r.homeSpare == some i && p r

/-- The change of a new record to one of the load (R69). -/
def Record.loaded (i : SpareIdx) (r : Record) : Record :=
  { r with state := .spared, homeSpare := some i, persisted := true }

/-- A VALID REPAIR slot is processed (R169). -/
def installRepair (k : RowKey) (i : SpareIdx) (s : State) : State :=
  let pos := keyPos k
  if spareState s.spares pos i = .burned then s
  else if isHome s pos i (fun r => r.key != k) then s
  else match lookup s k with
    | some r =>
      if r.homeSpare = some i then s
      else
        let s := match r.homeSpare with
          | some h => setSpare pos h .burned s
          | none => s
        updateRecord k (fun r => { r with homeSpare := some i }) (allocate pos i s)
    | none =>
      match createRecord k .store (Record.loaded i) s with
      | some (_, s) => allocate pos i s
      | none => s

/-- A VALID BAD_SPARE slot is processed (R170). -/
def installBadSpare (b : SpareName) (s : State) : State :=
  if isHome s b.pos b.idx (fun _ => true) then s
  else match spareState s.spares b.pos b.idx with
    | .free => warnLow b.pos (setSpare b.pos b.idx .burned s)
    | .assigned => s
    | .burned => s

/-- LOAD_REPAIR_SLOT (R169): takes place while LOADING, when the next VALID slot holds a REPAIR. -/
def execLoadRepairSlot (s : State) : Host.Outcome State Fault Refusal :=
  .next <|
    if s.phase = .loading then
      match nextValid s with
      | some (n, .repair k i) => (installRepair k i s).setLoadNext (n.val + 1)
      | _ => s
    else s

/-- LOAD_BAD_SPARE_SLOT (R170): takes place while LOADING, when the next VALID slot holds a BAD_SPARE. -/
def execLoadBadSpareSlot (s : State) : Host.Outcome State Fault Refusal :=
  .next <|
    if s.phase = .loading then
      match nextValid s with
      | some (n, .badSpare b) => (installBadSpare b s).setLoadNext (n.val + 1)
      | _ => s
    else s

/-- A pending link reset completion brings the link UP with a READY frame (R33). -/
def consumePending (s : State) : State :=
  if s.link.completionPending then (s.setLink ⟨.up, false, false⟩).setLinkOut (s.linkOut ++ [.ready]) else s

/-- LOAD_COMPLETION (R168): takes place while LOADING, when no VALID slot is left. -/
def execLoadCompletion (s : State) : Host.Outcome State Fault Refusal :=
  .next <|
    if s.phase = .loading ∧ nextValid s = none then
      let s := (s.setPort { s.port with restart := true }).setPhase .running
      let s := restartPace (s.setLoadNext 64)
      startPersist (consumePending (beginRow s))
    else s

end Sys2Proof.Machine
end

