-- ==== Sys2Proof/Machine/StoreEngine.lean ====
section
/-! DEFINITION. Machine/StoreEngine.lean: the completion of a program of the repair store (spec/10, R173 to R175). -/

namespace Sys2Proof.Machine

/-- A BAD_SPARE item leaves the bad-spare list (R171, R173). -/
def dropBadSpare (b : SpareName) (s : State) : State :=
  s.setPersist { s.persist with badSpares := s.persist.badSpares.filter fun x => x != b }

/-- The record of a REPAIR item changes, if it still names the programmed spare as its home (R173, R175). -/
def ifStillHome (k : RowKey) (i : SpareIdx) (f : Record → Record) (s : State) : State :=
  updateRecord k (fun r => if r.homeSpare = some i then f r else r) s

/-- The item's program has verified: it leaves the list, or the record is settled (R173, R175). -/
def settleItem (item : StoreItem) (s : State) : State :=
  match item with
  | .badSpare b => dropBadSpare b s
  | .repair k i => ifStillHome k i (fun r => { r with persisted := true, persistWanted := false }) s

/-- The item is dropped after its third slot (R173). -/
def dropItem (item : StoreItem) (s : State) : State :=
  match item with
  | .badSpare b => dropBadSpare b s
  | .repair k i => ifStillHome k i (fun r => { r with persistWanted := false }) s

/-- A program's completion (R173). -/
def completeProgram (p : Program) (verifyOk : Bool) (s : State) : State :=
  if verifyOk then
    let s := s.setStore (s.store.set p.slot.val (.valid p.item))
    startPersist (settleItem p.item (s.setPersist { s.persist with program := none }))
  else
    let s := s.setStore (s.store.set p.slot.val .burned)
    if p.tries < 3 then beginProgram p.item (p.tries + 1) s
    else startPersist (dropItem p.item (raise .storeFail (s.setPersist { s.persist with program := none })))

/-- PERSIST_PROGRAM_COMPLETE (R173): takes place while a program is in flight. -/
def execPersistProgramComplete (verifyOk : Bool) (s : State) : Host.Outcome State Fault Refusal :=
  .next <| match s.persist.program with
    | some p => completeProgram p verifyOk s
    | none => s

end Sys2Proof.Machine
end

