-- ==== Sys2Proof/Machine/Dispatch.lean ====
section
/-! DEFINITION. Machine/Dispatch.lean: one arm per command. -/

namespace Sys2Proof.Machine

def exec (i : Instr) (s : State) : Host.Outcome State Fault Refusal :=
  match i with
  | .powerOnReset powerLost holdAsserted => Sys2Proof.Machine.execPowerOnReset powerLost holdAsserted s
  | .loadRepairSlot => Sys2Proof.Machine.execLoadRepairSlot s
  | .loadBadSpareSlot => Sys2Proof.Machine.execLoadBadSpareSlot s
  | .loadCompletion => Sys2Proof.Machine.execLoadCompletion s
  | .holdNAssertion => Sys2Proof.Machine.execHoldNAssertion s
  | .holdNDeassertion => Sys2Proof.Machine.execHoldNDeassertion s
  | .holdTimerExpiry => Sys2Proof.Machine.execHoldTimerExpiry s
  | .dwellTimerExpiry => Sys2Proof.Machine.execDwellTimerExpiry s
  | .paceTimerExpiry => Sys2Proof.Machine.execPaceTimerExpiry s
  | .resetBegin => Sys2Proof.Machine.execResetBegin s
  | .resetEnd => Sys2Proof.Machine.execResetEnd s
  | .badFrame cause => Sys2Proof.Machine.execBadFrame cause s
  | .rd tag line => Sys2Proof.Machine.execRd tag line s
  | .wr tag line data => Sys2Proof.Machine.execWr tag line data s
  | .mwr tag line data enables => Sys2Proof.Machine.execMwr tag line data enables s
  | .rdIssue line => Sys2Proof.Machine.execRdIssue line s
  | .rdMediaReadComplete line damage => Sys2Proof.Machine.execRdMediaReadComplete line damage s
  | .wrIssue line => Sys2Proof.Machine.execWrIssue line s
  | .wrWriteComplete line => Sys2Proof.Machine.execWrWriteComplete line s
  | .mwrReadHalfIssue line => Sys2Proof.Machine.execMwrReadHalfIssue line s
  | .mwrReadHalfComplete line damage => Sys2Proof.Machine.execMwrReadHalfComplete line damage s
  | .mwrWriteHalfComplete line => Sys2Proof.Machine.execMwrWriteHalfComplete line s
  | .backgroundGrant => Sys2Proof.Machine.execBackgroundGrant s
  | .writebackPerform => Sys2Proof.Machine.execWritebackPerform s
  | .writebackComplete => Sys2Proof.Machine.execWritebackComplete s
  | .verifyReadPerform => Sys2Proof.Machine.execVerifyReadPerform s
  | .verifyReadComplete damage => Sys2Proof.Machine.execVerifyReadComplete damage s
  | .patrolLineReadPerform => Sys2Proof.Machine.execPatrolLineReadPerform s
  | .patrolLineReadComplete damage => Sys2Proof.Machine.execPatrolLineReadComplete damage s
  | .copyReadPerform => Sys2Proof.Machine.execCopyReadPerform s
  | .copyReadComplete damage => Sys2Proof.Machine.execCopyReadComplete damage s
  | .copyWriteComplete => Sys2Proof.Machine.execCopyWriteComplete s
  | .checkReadPerform => Sys2Proof.Machine.execCheckReadPerform s
  | .checkReadComplete damage => Sys2Proof.Machine.execCheckReadComplete damage s
  | .persistProgramComplete verifyOk => Sys2Proof.Machine.execPersistProgramComplete verifyOk s
  | .responseTransaction bytes tail => Sys2Proof.Machine.execResponseTransaction bytes tail s
  | .unassignedCommand code args tail => Sys2Proof.Machine.execUnassignedCommand code args tail s
  | .status args tail prompt => Sys2Proof.Machine.execStatus args tail prompt s
  | .findRecord args tail prompt => Sys2Proof.Machine.execFindRecord args tail prompt s
  | .readRecord args tail prompt => Sys2Proof.Machine.execReadRecord args tail prompt s
  | .watchRow args tail prompt => Sys2Proof.Machine.execWatchRow args tail prompt s
  | .pin args tail prompt => Sys2Proof.Machine.execPin args tail prompt s
  | .unpin args tail prompt => Sys2Proof.Machine.execUnpin args tail prompt s
  | .release args tail prompt => Sys2Proof.Machine.execRelease args tail prompt s
  | .forceSpare args tail prompt => Sys2Proof.Machine.execForceSpare args tail prompt s
  | .abortMigration args tail prompt => Sys2Proof.Machine.execAbortMigration args tail prompt s
  | .spareMap args tail prompt => Sys2Proof.Machine.execSpareMap args tail prompt s
  | .persist args tail prompt => Sys2Proof.Machine.execPersist args tail prompt s
  | .readStore args tail prompt => Sys2Proof.Machine.execReadStore args tail prompt s
  | .setParam args tail prompt => Sys2Proof.Machine.execSetParam args tail prompt s
  | .getParam args tail prompt => Sys2Proof.Machine.execGetParam args tail prompt s
  | .readCounters args tail prompt => Sys2Proof.Machine.execReadCounters args tail prompt s
  | .clearCounters args tail prompt => Sys2Proof.Machine.execClearCounters args tail prompt s
  | .ackAttention args tail prompt => Sys2Proof.Machine.execAckAttention args tail prompt s
  | .setAttentionMask args tail prompt => Sys2Proof.Machine.execSetAttentionMask args tail prompt s
  | .clear args tail => Sys2Proof.Machine.execClear args tail s
  | .commandTakeUp => Sys2Proof.Machine.execCommandTakeUp s

end Sys2Proof.Machine
end

