-- ==== Sys2Proof/WellFormed.lean ====
section
/-! DEFINITION. WellFormed.lean: which terms of `Instr` are commands of their row. Ranges of tags, lines, columns and
bits are in the types; what is left is below. -/

namespace Sys2Proof

/-- The command codes that the table of R182 assigns. -/
def assignedCodes : List Byte :=
  [0x01, 0x10, 0x11, 0x12, 0x13, 0x14, 0x15, 0x20, 0x21, 0x22, 0x30, 0x31, 0x40, 0x41, 0x50, 0x51, 0x60, 0x61, 0x7F]

/-- The frame kinds that the memory controller sends (R35). -/
def hostFrameKinds : List (BitVec 4) := [1, 2, 3, 4, 5]

/-- `code` opens a command transaction whose code is unassigned: 00h opens a response transaction instead (R179). -/
def unassignedCode (code : Byte) : Bool := code != 0 && !assignedCodes.contains code

/-- The cause makes the frame bad: a kind is a cause only when it is none that the controller sends (R37). -/
def BadFrameCause.isBad : BadFrameCause → Bool
  | .kind k => !hostFrameKinds.contains k
  | .frameCheck => true
  | .length => true

/-- The term is a command of its row. -/
def Instr.wellFormed : Instr → Bool
  | .badFrame cause => cause.isBad
  | .unassignedCommand code _ _ => unassignedCode code
  | _ => true

end Sys2Proof
end

