-- ==== Sys2Proof/Machine/Frames.lean ====
section
/-! DEFINITION. Machine/Frames.lean: the frames of the front link as bits, the first bit sent first (spec/03, R35): kinds,
fields, statuses, the bits of each frame, and the command that the bits of a frame from the memory controller are (R36,
R37). -/

namespace Sys2Proof.Machine

/-! ### Kinds, fields and statuses -/

/-- The assigned frame kinds (R35). -/
inductive FrameKind where
  | rd
  | wr
  | mwr
  | resetBegin
  | resetEnd
  | rret
  | wret
  | ready
  deriving DecidableEq, Repr

/-- The code in the kind field (R35). -/
def FrameKind.code : FrameKind → BitVec 4
  | .rd => 1
  | .wr => 2
  | .mwr => 3
  | .resetBegin => 4
  | .resetEnd => 5
  | .rret => 9
  | .wret => 10
  | .ready => 12

def allFrameKinds : List FrameKind := [.rd, .wr, .mwr, .resetBegin, .resetEnd, .rret, .wret, .ready]

/-- The kind of a code; none when the code is unassigned (R35). -/
def FrameKind.ofCode (k : BitVec 4) : Option FrameKind := allFrameKinds.find? fun f => f.code == k

/-- The memory controller sends frames of the kind (R35). -/
def FrameKind.fromHost (f : FrameKind) : Bool := hostFrameKinds.contains f.code

/-- The fields of a frame (R35). -/
inductive FrameField where
  | kind
  | tag
  | line
  | status
  | enables
  | data
  | check
  deriving DecidableEq, Repr

/-- The bits of a field (R35). -/
def FrameField.bits : FrameField → Nat
  | .kind => 4
  | .tag => 5
  | .line => 28
  | .status => 2
  | .enables => 64
  | .data => 512
  | .check => 16

/-- The fields present in a frame of the kind, in the order in which they are sent (R35). -/
def FrameKind.fields : FrameKind → List FrameField
  | .rd => [.kind, .tag, .line, .check]
  | .wr => [.kind, .tag, .line, .data, .check]
  | .mwr => [.kind, .tag, .line, .enables, .data, .check]
  | .resetBegin => [.kind, .check]
  | .resetEnd => [.kind, .check]
  | .rret => [.kind, .tag, .status, .data, .check]
  | .wret => [.kind, .tag, .status, .check]
  | .ready => [.kind, .check]

/-- The bits of a frame of the kind (R35). -/
def FrameKind.length (f : FrameKind) : Nat := (f.fields.map FrameField.bits).sum

/-- R35, the table of returns. -/
def ReadStatus.code : ReadStatus → BitVec 2
  | .clean => 0
  | .corrected => 1
  | .poisoned => 2

/-- R35, the table of returns. -/
def WriteStatus.code : WriteStatus → BitVec 2
  | .done => 0
  | .poisonKept => 1

/-! ### The bits of a frame -/

/-- The bit of the line's data that is sent as bit `n` of the data field: byte 0 first (R35), each byte most significant bit
first (log 30). -/
def dataOrder (n : Nat) : Nat := 8 * (n / 8) + (7 - n % 8)

/-- The data field (R35). -/
def dataBits (d : LineData) : List Bool := (List.range 512).map fun n => d.getLsbD (dataOrder n)

/-- The data that a data field spells (R35). -/
def dataValue (bs : List Bool) : LineData := ofBits 512 fun n => bs.getD (dataOrder n) false

/-- A frame: its kind, the fields that follow it, and the frame check over all of them (R35; the check is a free value,
log 17). -/
def frameBits (f : FrameKind) (fields : List Bool) : List Bool :=
  let body := fieldBits 4 f.code.toNat ++ fields
  body ++ fieldBits 16 (Config.frameCheck body).toNat

/-- The tag and the line address of a request, as they are sent (R35). -/
def requestBits (t : Tag) (l : LineAddr) : List Bool := fieldBits 5 t.val ++ fieldBits 28 l.val

/-- The frame that the memory controller sends for a command of the front link; entry b of the byte enables stands at bit b
(R35, R36). -/
def hostFrame : Instr → Option (List Bool)
  | .rd t l => some (frameBits .rd (requestBits t l))
  | .wr t l d => some (frameBits .wr (requestBits t l ++ dataBits d))
  | .mwr t l d e => some (frameBits .mwr (requestBits t l ++ fieldBits 64 e.toNat ++ dataBits d))
  | .resetBegin => some (frameBits .resetBegin [])
  | .resetEnd => some (frameBits .resetEnd [])
  | _ => none

/-- The bits of a frame that the part sends (R35, R51). -/
def OutFrame.bits : OutFrame → List Bool
  | .rret t st d => frameBits .rret (fieldBits 5 t.val ++ fieldBits 2 st.code.toNat ++ dataBits d)
  | .wret t st => frameBits .wret (fieldBits 5 t.val ++ fieldBits 2 st.code.toNat)
  | .ready => frameBits .ready []

/-! ### The arrival of bits -/

/-- The command of a frame of the right length, from the bits between its kind and its check (R36). -/
def readFields (f : FrameKind) (bs : List Bool) : Instr :=
  let tag : Tag := Fin.ofNat 32 (fieldValue (bs.take 5))
  let line : LineAddr := Fin.ofNat 268435456 (fieldValue ((bs.drop 5).take 28))
  match f with
  | .rd => .rd tag line
  | .wr => .wr tag line (dataValue (bs.drop 33))
  | .mwr => .mwr tag line (dataValue (bs.drop 97)) (BitVec.ofNat 64 (fieldValue ((bs.drop 33).take 64)))
  | .resetBegin => .resetBegin
  | .resetEnd => .resetEnd
  | .rret => .badFrame (.kind f.code)
  | .wret => .badFrame (.kind f.code)
  | .ready => .badFrame (.kind f.code)

/-- The frame check of a frame matches: its last 16 bits are the check over the bits before them (R35). -/
def checkMatches (bs : List Bool) : Bool :=
  let n := bs.length - 16
  fieldValue (bs.drop n) == (Config.frameCheck (bs.take n)).toNat

/-- The command that a frame from the memory controller is: BAD_FRAME when its check does not match, its kind is unassigned
or the part's own, or its length is not its kind's (R37; of several causes the first named here, log 17); the command of
its kind otherwise. -/
def readFrame (bs : List Bool) : Instr :=
  if bs.length < 20 then .badFrame .length
  else if checkMatches bs = false then .badFrame .frameCheck
  else
    let code : BitVec 4 := BitVec.ofNat 4 (fieldValue (bs.take 4))
    match FrameKind.ofCode code with
    | none => .badFrame (.kind code)
    | some f =>
      if f.fromHost = false then .badFrame (.kind code)
      else if bs.length ≠ f.length then .badFrame .length
      else readFields f ((bs.drop 4).take (bs.length - 20))

end Sys2Proof.Machine
end

