-- ==== Sys2Proof/Safety.lean ====
section
/-! DEFINITION. Safety.lean: what the spec calls a law of the device, as predicates of a state. -/

namespace Sys2Proof.Machine

/-- R38: no two outstanding requests hold the same tag. -/
abbrev TagsDistinct (s : State) : Prop := (s.ops.filterMap Op.tag).Nodup

/-- R100: the Writeback Queue never holds more than 16 entries nor two for the same line. -/
abbrev WbQueueLaw (s : State) : Prop := s.wbQueue.length ≤ 16 ∧ (s.wbQueue.map WbEntry.line).Nodup

/-- R110: the Verify Queue never holds more than 8 entries nor two for the same line. -/
abbrev VerifyQueueLaw (s : State) : Prop := s.verifyQueue.length ≤ 8 ∧ s.verifyQueue.Nodup

/-- R119: patrol credits never exceed 64. -/
abbrev CreditLaw (s : State) : Prop := s.patrol.credits ≤ 64

/-- R57: no two records have the same row key, and no two stand in the same of the 256 slots. -/
abbrev TableLaw (s : State) : Prop := (s.table.map Record.key).Nodup ∧ (s.table.map Record.slot).Nodup

/-- R90: the weight lies within 0 to 4,095 and the poison list holds at most four distinct columns. -/
abbrev ScoreLaw (r : Record) : Prop := r.weight ≤ 4095 ∧ r.poison.length ≤ 4 ∧ r.poison.Nodup

/-- R55: a destination spare, and with it the migration sub-state, is present if and only if the record is MIGRATING. -/
abbrev DestinationLaw (r : Record) : Prop :=
  r.destSpare.isSome = (r.state == .migrating) ∧ r.migration.isSome = (r.state == .migrating)

/-- R171: the bad-spare list holds up to 8 items without duplicates. -/
abbrev BadSpareLaw (s : State) : Prop := s.persist.badSpares.length ≤ 8 ∧ s.persist.badSpares.Nodup

/-- R145: every home or destination spare that a record names is ASSIGNED in the record's bank, every ASSIGNED spare is
named, and none is named twice, not even by one record for both. -/
abbrev SpareLaw (s : State) : Prop :=
  (∀ r ∈ s.table, ∀ i : SpareIdx, r.destSpare = some i → r.homeSpare ≠ some i) ∧
  (∀ r ∈ s.table, ∀ i : SpareIdx, r.homeSpare = some i ∨ r.destSpare = some i →
      spareState s.spares (keyPos r.key) i = .assigned) ∧
  (∀ p : BankPos, ∀ i : SpareIdx, spareState s.spares p i = .assigned →
      (s.table.countP fun r => keyPos r.key == p && (r.homeSpare == some i || r.destSpare == some i)) = 1)

/-- The background operations of the line orders (R40). -/
def OpKind.isBackground : OpKind → Bool
  | .rd => false
  | .wr _ => false
  | .mwr _ _ => false
  | .writeback _ => true
  | .verify => true
  | .patrol => true
  | .copyRead => true
  | .copyWrite => true
  | .checkRead => true

/-- The background operations in the line orders. -/
abbrev background (s : State) : List Op := s.ops.filter fun o => o.kind.isBackground

/-- R139: at most one background media operation is in flight, and none while the slot is free. -/
abbrev SlotLaw (s : State) : Prop := (background s).length ≤ 1 ∧ (s.slot = none → background s = [])

/-- The one background operation in the line orders is on the line and of a kind that `p` holds of. -/
abbrev OnlyBackground (s : State) (l : LineAddr) (p : OpKind → Prop) : Prop :=
  ∃ o : Op, background s = [o] ∧ o.line = l ∧ p o.kind

/-- R139, R152, R155, R160: the slot is held for exactly the operation in flight. While a migration step holds it, the
step's operation stands in the line orders, and none while its column waits for a host write; a step stands only while
the migration holds the slot. -/
def HolderLaw (s : State) : Prop :=
  match s.slot with
  | none => s.engine.step = none ∧ background s = []
  | some (.writeback l) => s.engine.step = none ∧ OnlyBackground s l fun k => ∃ c : LineContent, k = .writeback c
  | some (.verify l) => s.engine.step = none ∧ OnlyBackground s l fun k => k = .verify
  | some (.patrol l) => s.engine.step = none ∧ OnlyBackground s l fun k => k = .patrol
  | some .migration => ∃ st : MigStep, s.engine.step = some st ∧
    match st.stage with
    | .copyRead => OnlyBackground s st.line fun k => k = .copyRead
    | .awaitHost _ => background s = []
    | .copyWrite => OnlyBackground s st.line fun k => k = .copyWrite
    | .checkRead => OnlyBackground s st.line fun k => k = .checkRead

/-- R149: the migration queue holds each QUEUED record once and no other, the urgent ones in the urgent section. -/
abbrev QueueLaw (s : State) : Prop :=
  (s.queue.urgent ++ s.queue.normal).Nodup ∧
  (∀ k ∈ s.queue.urgent, ∃ r ∈ s.table, r.key = k ∧ r.state = .queued ∧ r.urgent = true) ∧
  (∀ k ∈ s.queue.normal, ∃ r ∈ s.table, r.key = k ∧ r.state = .queued ∧ r.urgent = false) ∧
  (∀ r ∈ s.table, r.state = .queued → r.key ∈ s.queue.urgent ++ s.queue.normal)

/-- R150: at most one record is MIGRATING. -/
abbrev EngineLaw (s : State) : Prop := (s.table.countP fun r => r.state == .migrating) ≤ 1

/-- The canonical form of the media. -/
abbrev MediaLaw (s : State) : Prop := Memory.wf s.media.lines

/-- R54: a WATCH record has no home spare, a SPARED record has one. -/
abbrev HomeLaw (r : Record) : Prop :=
  (r.state = .watch → r.homeSpare = none) ∧ (r.state = .spared → r.homeSpare.isSome = true)

/-- R150, R160: a step in flight that is no leftover step belongs to the migration in progress, onto its destination. -/
abbrev StepLaw (s : State) : Prop :=
  ∀ st : MigStep, s.engine.step = some st → st.leftover = false →
    ∃ r ∈ s.table, r.key = lineKey st.line ∧ r.state = .migrating ∧ r.destSpare = some st.dest

/-- R168: while the part is LOADING the link is DOWN, nothing is in flight or queued, the patrol rests with no credit, the
persist engine rests, every record is a loaded one, and no command but STATUS awaits its take-up. -/
abbrev LoadLaw (s : State) : Prop :=
  s.phase = .loading →
    s.link.state = .down ∧ s.ops = [] ∧ s.slot = none ∧ s.engine.step = none ∧ s.wbQueue = [] ∧ s.verifyQueue = [] ∧
    s.queue = ⟨[], []⟩ ∧ s.persist = ⟨[], none⟩ ∧ s.patrol.current = none ∧ s.patrol.paceTimer = none ∧ s.patrol.credits = 0 ∧
    (∀ r ∈ s.table, r.state = .spared ∧ r.persistWanted = false) ∧
    (∀ a : Awaiting, s.port.awaiting = some a → a.command = .status)

/-- R167: the EMPTY slots form one unbroken run at the top of the store, and a program in flight is in the lowest of them. -/
abbrev StoreLaw (s : State) : Prop :=
  (∀ n m : Fin 64, n < m → s.store[n] = .empty → s.store[m] = .empty) ∧
  (∀ p : Program, s.persist.program = some p →
    s.store[p.slot] = .empty ∧ ∀ n : Fin 64, n < p.slot → s.store[n] ≠ .empty)

/-- The laws of records, spares, the migration queue and the engine together (R54, R55, R57, R145, R149, R150). -/
abbrev RepairLaw (s : State) : Prop :=
  TableLaw s ∧ (∀ r ∈ s.table, DestinationLaw r ∧ HomeLaw r) ∧ EngineLaw s ∧ StepLaw s ∧ QueueLaw s ∧ SpareLaw s ∧ LoadLaw s

/-! ### Terms of the statements -/

/-- A field of `w` bits that holds the number `v` stands in the bits at `start`, most significant bit first (R35). -/
abbrev FieldAt (bits : List Bool) (start w v : Nat) : Prop :=
  ∀ i : Nat, i < w → bits[start + i]? = some (v.testBit (w - 1 - i))

/-- The data stands in the 512 bits at `start`, byte 0 first (R35), each byte most significant bit first (log 30). -/
abbrev DataAt (bits : List Bool) (start : Nat) (d : LineData) : Prop :=
  ∀ b i : Nat, b < 64 → i < 8 → bits[start + 8 * b + i]? = some (d.getLsbD (8 * b + (7 - i)))

/-- The bits end with the frame check at `start`, over all the bits before it (R35; the check is free, log 17). -/
abbrev CheckAt (bits : List Bool) (start : Nat) : Prop :=
  bits.length = start + 16 ∧ FieldAt bits start 16 (Config.frameCheck (bits.take start)).toNat

/-- The management port takes a command up: the part is RUNNING and no earlier command awaits its take-up (R181). -/
abbrev PortReady (s : State) : Prop := s.phase = .running ∧ s.port.awaiting = none

/-- The port after a complete command transaction with `n` argument bytes that is answered at once: FFh, all ones, was shifted
out, and the answer is the held response (R179, R180). -/
def answeredPort (s : State) (n : Nat) (status : Status) (data : List Byte) (isReport : Bool) : Port :=
  ⟨some ⟨status, data, isReport⟩, none, s.port.restart, List.replicate (8 * (n + 1)) true⟩

/-- The state after the request at the head of the line's order is answered by a frame (R40, R51, R52). -/
def returned (l : LineAddr) (f : OutFrame) (s : State) : State :=
  { s with
    ops := s.ops.eraseP fun o => o.line == l
    linkOut := s.linkOut ++ [f]
    quiet := s.quiet.report s.params (occupancy s - 1) }

/-- The state after the operation at the head of the line's order leaves it and sends nothing (R34, R40). -/
def unanswered (l : LineAddr) (s : State) : State := { s with ops := s.ops.eraseP fun o => o.line == l }

/-- The state after the request at the head of the line's order ends: answered under its tag, or, an orphan, not at all
(R34, R51). -/
def ended (l : LineAddr) (tag : Option Tag) (f : Tag → OutFrame) (s : State) : State :=
  match tag with
  | some t => returned l (f t) s
  | none => unanswered l s

/-- The line orders with the operation at the head of the line's order at a new stage. -/
def stagedOps (s : State) (l : LineAddr) (st : Stage) : List Op :=
  modifyFirst (fun o => o.line == l) (fun o => { o with stage := st }) s.ops

/-- The records, with the column taken from the poison list of the line's record (R48). -/
def unpoisoned (s : State) (l : LineAddr) : List Record :=
  s.table.map fun r => if r.key = lineKey l then { r with poison := r.poison.filter fun c => c != lineColumn l } else r

/-- `m` holds `content` at each target of the line and what `m₀` holds everywhere else. -/
def Written (m₀ m : Media) (l : LineAddr) (targets : List Place) (content : LineContent) : Prop :=
  (∀ p ∈ targets, m.stored (physLine l p) = content.stored) ∧
  (∀ n : Nat, (∀ p ∈ targets, physLine l p ≠ n) → m.stored n = m₀.stored n)

/-- The record of the line is not MIGRATING. -/
abbrev NotMigrating (s : State) (l : LineAddr) : Prop :=
  ∀ r : Record, lineRecord s l = some r → r.state ≠ .migrating

/-- `marked` is the marked-column set after a write of `content` to the targets of the line: a write that lands on the
destination of the row's migration adds the column for the mark and removes it for data; any other leaves the set (R157). -/
abbrev MarkedFollows (s : State) (l : LineAddr) (targets : List Place) (content : LineContent) (marked : List Column) :
    Prop :=
  (NotMigrating s l → marked = s.engine.marked) ∧
  ∀ (r : Record) (d : SpareIdx) (g : MigSub), lineRecord s l = some r → r.state = .migrating → r.destSpare = some d →
    r.migration = some g →
    (.spare d ∉ targets → marked = s.engine.marked) ∧
    (.spare d ∈ targets → ∀ c : Column,
      (content = .mark → (c ∈ marked ↔ c = lineColumn l ∨ c ∈ s.engine.marked)) ∧
      (content ≠ .mark → (c ∈ marked ↔ c ≠ lineColumn l ∧ c ∈ s.engine.marked)))

/-- The records after the column at the copy cursor of the line's record has ended: the cursor rises, and at 128 the phase
becomes CHECK (R154). -/
def columnEnded (s : State) (l : LineAddr) : List Record :=
  s.table.map fun r => if r.key = lineKey l then { r with migration := r.migration.map fun g =>
    if g.copyCursor + 1 = 128 then ⟨.check, 128, 0, g.attempt⟩
    else { g with copyCursor := g.copyCursor + 1 } } else r

/-- A verify entry may be issued: no writeback of its line is queued or in flight (R113). -/
abbrev MayVerify (s : State) (l : LineAddr) : Prop := (∀ e ∈ s.wbQueue, e.line ≠ l) ∧ s.slot ≠ some (.writeback l)

/-- Every slot is occupied, and `v`, between `before` and `after` in the age list, is the record to be evicted: the candidate of
lowest weight, the oldest among equals (R64). -/
abbrev Evicts (s : State) (before : List Record) (v : Record) (after : List Record) : Prop :=
  s.table = before ++ v :: after ∧ (∀ n : Fin 256, ∃ r ∈ s.table, r.slot = n) ∧ (∀ r ∈ before ++ after, r.slot ≠ v.slot) ∧
  v.state = .watch ∧ v.pinned = false ∧ v.poison = [] ∧ v.overflow = false ∧
  (∀ r ∈ before, r.evictable = true → v.weight < r.weight) ∧ (∀ r ∈ after, r.evictable = true → v.weight ≤ r.weight)

/-- The slot is the lowest EMPTY one (R172). -/
abbrev LowestEmpty (store : Vector StoreSlot 64) (n : Fin 64) : Prop :=
  store[n] = .empty ∧ ∀ m : Fin 64, m < n → store[m] ≠ .empty

/-- The persist engine's choice (R172): the head of the bad-spare list; with the list empty, the repair of the record with
persist wanted that stands earliest in the age list, onto its home as it stands; none when there is no work. -/
def NextWork (items : List SpareName) (table : List Record) (item : Option StoreItem) : Prop :=
  (∃ (b : SpareName) (rest : List SpareName), items = b :: rest ∧ item = some (.badSpare b)) ∨
  (items = [] ∧ ∃ (older younger : List Record) (r : Record) (h : SpareIdx), table = older ++ r :: younger ∧
    (∀ x ∈ older, x.persistWanted = false) ∧ r.persistWanted = true ∧ r.homeSpare = some h ∧
    item = some (.repair r.key h)) ∨
  (items = [] ∧ (∀ r ∈ table, r.persistWanted = false) ∧ item = none)

/-- `u` is `s` after the work is given up because no slot is EMPTY (R174). -/
abbrev GivenUp (s u : State) : Prop :=
  u = { s with
    persist := ⟨[], none⟩
    attn := { s.attn with flags := s.attn.flags ||| BitVec.twoPow 10 8 }
    table := s.table.map fun r => { r with persistWanted := false } }

/-- `u` is `s`, whose persist engine is idle in the RUNNING part, after the engine has looked for work: a program of its choice
in the lowest EMPTY slot, the work given up, or no change (R172, R174). -/
abbrev WorkTakenUp (s u : State) : Prop :=
  (NextWork s.persist.badSpares s.table none → u = s) ∧
  ∀ item : StoreItem, NextWork s.persist.badSpares s.table (some item) →
    (∀ n : Fin 64, LowestEmpty s.store n → u = { s with persist := { s.persist with program := some ⟨n, item, 1⟩ } }) ∧
    ((∀ n : Fin 64, s.store[n] ≠ .empty) → GivenUp s u)

/-- `u` is `s` after the bad-spare item is handed to the Repair Store (R159): it joins the list unless it is listed or the
list is full (R171), and an idle engine begins a program of the oldest item at once, or gives up in a full store (R172,
R174). -/
abbrev BadSpareHanded (s u : State) (b : SpareName) : Prop :=
  ∀ items : List SpareName,
    items = (if b ∈ s.persist.badSpares ∨ 8 ≤ s.persist.badSpares.length then s.persist.badSpares
      else s.persist.badSpares ++ [b]) →
    (∀ p : Program, s.persist.program = some p → u.persist = ⟨items, some p⟩) ∧
    (s.persist.program = none → s.phase = .loading → u.persist = ⟨items, none⟩) ∧
    (∀ (first : SpareName) (n : Fin 64), s.persist.program = none → s.phase = .running → items.head? = some first →
      s.store[n] = .empty → (∀ m : Fin 64, m < n → s.store[m] ≠ .empty) →
      u.persist = ⟨items, some ⟨n, .badSpare first, 1⟩⟩) ∧
    (s.persist.program = none → s.phase = .running → (∀ n : Fin 64, s.store[n] ≠ .empty) →
      u.persist = ⟨[], none⟩ ∧ u.attn.isSet .storeFull = true)

/-- `u` is `s` after the attempt of the step in flight has ended (R160): a step that waits for a host write has no media
operation left and frees the slot; any other goes on as the leftover step. -/
abbrev StepOrphaned (s u : State) : Prop :=
  (s.engine.step = none → u.engine.step = none ∧ u.slot = s.slot) ∧
  ∀ st : MigStep, s.engine.step = some st →
    (∀ found : LineContent, st.stage = .awaitHost found → u.engine.step = none ∧ u.slot = none) ∧
    ((∀ found : LineContent, st.stage ≠ .awaitHost found) →
      u.engine.step = some { st with leftover := true } ∧ u.slot = s.slot)

/-- `u` is `s` after the attempt of the record `r` onto `d` has failed (R159): the destination is BURNED and counted, the
item is handed on, and a new attempt begins on the FREE spare of lowest index, or, after the third attempt or with no
FREE spare, the record is condemned on its home. -/
abbrev AttemptFailed (s u : State) (r : Record) (g : MigSub) (d : SpareIdx) : Prop :=
  spareState u.spares (keyPos r.key) d = .burned ∧
  u.counters = { s.counters with sparesBurned := min (s.counters.sparesBurned + 1) 4294967295 } ∧
  BadSpareHanded s u ⟨keyPos r.key, d⟩ ∧
  (∀ d' : SpareIdx, g.attempt < 3 → d' ≠ d → spareState s.spares (keyPos r.key) d' = .free →
    (∀ i : SpareIdx, i < d' → i ≠ d → spareState s.spares (keyPos r.key) i ≠ .free) →
    spareState u.spares (keyPos r.key) d' = .assigned ∧ u.queue = s.queue ∧ u.engine.marked = [] ∧
    ∃ r' : Record, lookup u r.key = some r' ∧
      (r' = { r with state := .migrating, destSpare := some d', migration := some ⟨.copy, 0, 0, g.attempt + 1⟩ } ∨
        r' = { r with
          state := .migrating, destSpare := some d', migration := some ⟨.copy, 0, 0, g.attempt + 1⟩
          persistWanted := false } ∧ u.persist = ⟨[], none⟩)) ∧
  ((3 ≤ g.attempt ∨ ∀ i : SpareIdx, i ≠ d → spareState s.spares (keyPos r.key) i ≠ .free) →
    r.key ∉ s.queue.urgent ++ s.queue.normal →
    u.attn.isSet .condemned = true ∧
    ∃ r' : Record, lookup u r.key = some r' ∧
      (r' = { r with state := .condemned, destSpare := none, migration := none, urgent := false } ∨
        r' = { r with
          state := .condemned, destSpare := none, migration := none, urgent := false, persistWanted := false } ∧
          u.persist = ⟨[], none⟩))

/-- The code, the argument bytes, the bits of a partial byte, and the promptness of a command transaction (R179, R182). -/
def transaction : Instr → Option (Byte × List Byte × Fin 8 × Bool)
  | .unassignedCommand code a t => some (code, a, t, true)
  | .status a t p => some (0x01, a, t, p)
  | .findRecord a t p => some (0x10, a, t, p)
  | .readRecord a t p => some (0x11, a, t, p)
  | .watchRow a t p => some (0x12, a, t, p)
  | .pin a t p => some (0x13, a, t, p)
  | .unpin a t p => some (0x14, a, t, p)
  | .release a t p => some (0x15, a, t, p)
  | .forceSpare a t p => some (0x20, a, t, p)
  | .abortMigration a t p => some (0x21, a, t, p)
  | .spareMap a t p => some (0x22, a, t, p)
  | .persist a t p => some (0x30, a, t, p)
  | .readStore a t p => some (0x31, a, t, p)
  | .setParam a t p => some (0x40, a, t, p)
  | .getParam a t p => some (0x41, a, t, p)
  | .readCounters a t p => some (0x50, a, t, p)
  | .clearCounters a t p => some (0x51, a, t, p)
  | .ackAttention a t p => some (0x60, a, t, p)
  | .setAttentionMask a t p => some (0x61, a, t, p)
  | .clear a t => some (0x7F, a, t, true)
  | _ => none

/-- The argument counts of the command table (R182). -/
def argumentCount (code : Byte) : Option Nat :=
  if code ∈ [0x01, 0x50, 0x51, 0x7F] then some 0
  else if code ∈ [0x11, 0x31, 0x41] then some 1
  else if code ∈ [0x22, 0x60, 0x61] then some 2
  else if code ∈ [0x10, 0x12, 0x13, 0x14, 0x15, 0x20, 0x21, 0x30] then some 4
  else if code = 0x40 then some 5
  else none

/-- The argument bytes fail the range check of their command (R5, R181). -/
def outOfRange (code : Byte) : List Byte → Bool
  | [r, b, _, _] => code ∈ [0x10, 0x12, 0x13, 0x14, 0x15, 0x20, 0x21, 0x30] && (1 < r.toNat || 15 < b.toNat)
  | [r, b] => code == 0x22 && (1 < r.toNat || 15 < b.toNat)
  | [n] => code == 0x31 && 63 < n.toNat || code == 0x41 && (n.toNat == 0 || 14 < n.toNat)
  | [n, _, _, _, _] => code == 0x40 && (n.toNat == 0 || 14 < n.toNat)
  | _ => false

/-- The port after a complete command transaction with `n` argument bytes that a check answers: an earlier command that
awaits its take-up still does, its response discarded (R180, R181). -/
def rejectedPort (s : State) (n : Nat) (status : Status) : Port :=
  ⟨some ⟨status, [], false⟩, s.port.awaiting.map fun a => { a with discarded := true }, s.port.restart,
    List.replicate (8 * (n + 1)) true⟩

end Sys2Proof.Machine
end

