-- ==== Sys2Proof/Certificates/Slice0/Obligations.lean ====
section
/-! DEFINITION. Certificates/Slice0/Obligations.lean: the statements. A statement of a command's result is an equation
`exec … = .next { s with … }`: every field that is not named keeps its value. -/

open Sys2Proof Sys2Proof.Machine

/-! ### The frame of the model -/

/-- One step takes the command at the front of the queue; with none waiting the block idles (log 2, the model's choice). -/
def Obligations.StepRunsFrontCommand : Prop :=
  (∀ (s : State) (c : Instr) (rest : List Instr), s.pending = c :: rest → step s = exec c { s with pending := rest }) ∧
  (∀ s : State, s.pending = [] → step s = .next s)

/-! ### Places and routing (spec/01) -/

/-- R3: the decomposition of a line address, and that it is one to one; with R4 as its inverse. -/
def Obligations.LineAddressNamesPlace : Prop :=
  (∀ l : LineAddr, (lineColumn l).val = l.val % 128 ∧ (lineKey l).bank.val = l.val / 128 % 16 ∧
    (lineKey l).rank.val = l.val / 2048 % 2 ∧ (lineKey l).row.val = l.val / 4096) ∧
  (∀ l l' : LineAddr, lineKey l = lineKey l' → lineColumn l = lineColumn l' → l = l') ∧
  (∀ (k : RowKey) (c : Column),
    (lineOf k c).val = k.row.val * 4096 + k.rank.val * 2048 + k.bank.val * 128 + c.val ∧
    lineKey (lineOf k c) = k ∧ lineColumn (lineOf k c) = c)

/-- R7: host rows and spares are different physical rows, and a physical line is shared only by lines of equal column
that live on one spare of their common bank position. -/
def Obligations.PhysicalLinesApart : Prop :=
  (∀ l l' : LineAddr, physLine l .hostRow = physLine l' .hostRow → l = l') ∧
  (∀ (l l' : LineAddr) (i : SpareIdx), physLine l .hostRow ≠ physLine l' (.spare i)) ∧
  (∀ (l l' : LineAddr) (i i' : SpareIdx), physLine l (.spare i) = physLine l' (.spare i') →
    keyPos (lineKey l) = keyPos (lineKey l') ∧ i = i' ∧ lineColumn l = lineColumn l')

/-- R10 to R13: the read target and the write targets of a line, by the record of its row. R13, R152, R155: the copy of a line's
column is in flight while a step that is not leftover stands for it, from its copy read, through the wait for a host write that
cancels the copy write, to its copy write. -/
def Obligations.RoutingByRecord : Prop :=
  (∀ (s : State) (l : LineAddr), NotMigrating s l →
    readTarget (lineRecord s l) (lineColumn l) = (homePlace (lineRecord s l), false) ∧
    writeTargets s l = [homePlace (lineRecord s l)]) ∧
  (∀ (s : State) (l : LineAddr) (r : Record) (d : SpareIdx) (m : MigSub),
    lineRecord s l = some r → r.state = .migrating → r.destSpare = some d → r.migration = some m →
    readTarget (lineRecord s l) (lineColumn l) =
      (if (lineColumn l).val < m.copyCursor then (.spare d, true) else (homePlace (some r), false)) ∧
    writeTargets s l =
      (if (lineColumn l).val < m.copyCursor ∨ ((lineColumn l).val = m.copyCursor ∧ copyInFlight s l = true)
       then [homePlace (some r), .spare d] else [homePlace (some r)])) ∧
  homePlace none = .hostRow ∧
  (∀ r : Record, r.homeSpare = none → homePlace (some r) = .hostRow) ∧
  (∀ (r : Record) (i : SpareIdx), r.homeSpare = some i → homePlace (some r) = .spare i) ∧
  (∀ (s : State) (l : LineAddr), copyInFlight s l = true ↔
    ∃ st : MigStep, s.engine.step = some st ∧ st.line = l ∧ st.leftover = false ∧
      (st.stage = .copyRead ∨ (∃ found : LineContent, st.stage = .awaitHost found) ∨ st.stage = .copyWrite))

/-! ### The line code (spec/02) -/

/-- R16 to R22: the data bits fill, in ascending order, the positions from 1 to 71 that are no power of two; an encoded word holds
its data bits in their positions, has S = 0 and P = 0, and decodes CLEAN to its data; and what the decoder makes of damage `e`,
any set of positions, to it. `syndrome e` is the exclusive OR of the damaged positions, `parity e` says that they are odd in
number. -/
def Obligations.WordCodeClassifiesDamage : Prop :=
  ((∀ i j : Nat, i < j → j < 64 → dataPos i < dataPos j) ∧
    (∀ q : Nat, (∃ i : Nat, i < 64 ∧ dataPos i = q) ↔ 1 ≤ q ∧ q ≤ 71 ∧ ∀ j : Nat, q ≠ 2 ^ j) ∧
    (∀ (w : StoredWord) (i : Nat), i < 64 → (dataOf w).getLsbD i = w.getLsbD (dataPos i)) ∧
    (∀ p : Fin 72, syndrome (BitVec.twoPow 72 p.val) = p.val ∧ parity (BitVec.twoPow 72 p.val) = true) ∧
    (∀ v w : StoredWord, syndrome (v ^^^ w) = syndrome v ^^^ syndrome w ∧ parity (v ^^^ w) = Bool.xor (parity v) (parity w))) ∧
  (∀ d : DataWord,
    (∀ i : Nat, i < 64 → (encodeWord d).getLsbD (dataPos i) = d.getLsbD i) ∧
    syndrome (encodeWord d) = 0 ∧ parity (encodeWord d) = false ∧
    wordOutcome (encodeWord d) = .clean ∧ delivered (encodeWord d) = d) ∧
  ((∀ (d : DataWord) (p : Fin 72),
    wordOutcome (encodeWord d ^^^ BitVec.twoPow 72 p.val) = .corrected p ∧
    delivered (encodeWord d ^^^ BitVec.twoPow 72 p.val) = d) ∧
  (∀ (d : DataWord) (p q : Fin 72), p ≠ q →
    wordOutcome (encodeWord d ^^^ (BitVec.twoPow 72 p.val ^^^ BitVec.twoPow 72 q.val)) = .uncorrectable) ∧
  (∀ (d : DataWord) (e : StoredWord) (h : syndrome e < 72), parity e = true →
    wordOutcome (encodeWord d ^^^ e) = .corrected ⟨syndrome e, h⟩ ∧
    delivered (encodeWord d ^^^ e) = d ^^^ dataOf (e ^^^ BitVec.twoPow 72 (syndrome e))) ∧
  (∀ (d : DataWord) (e : StoredWord), parity e = true → 72 ≤ syndrome e →
    wordOutcome (encodeWord d ^^^ e) = .uncorrectable) ∧
  (∀ (d : DataWord) (e : StoredWord), parity e = false → syndrome e ≠ 0 →
    wordOutcome (encodeWord d ^^^ e) = .uncorrectable) ∧
  (∀ (d : DataWord) (e : StoredWord), parity e = false → syndrome e = 0 →
    wordOutcome (encodeWord d ^^^ e) = .clean ∧ delivered (encodeWord d ^^^ e) = d ^^^ dataOf e))

/-- Decode of encode, for every line of data: undamaged it is CLEAN with its data, and with any one of its 576 stored bits
flipped it is CORRECTED with its data and reports the cell of that bit (R19 to R22, R25, R27). R2: word `w` of a line is its data
bits from 64w on, that is its bytes 8w to 8w + 7, each word encoded and decoded separately. R19, R23, R28: a media write stores
the encoded data, or the mark, and a media read decodes what the physical line holds, changed in the bits of `damage` (log 8);
so a place that a write has been made to reads back, undamaged, as what was written. -/
def Obligations.LineDecodeInvertsEncode : Prop :=
  (∀ (d : LineData) (l : LineAddr) (c : Column) (p : Place),
    decodeLine l c p (encodeLine d) = ⟨l, p, .clean, d, none⟩ ∧
    ∀ (w : Fin 8) (q : Fin 72),
      decodeLine l c p (encodeLine d ^^^ BitVec.twoPow 576 (72 * w.val + q.val)) = ⟨l, p, .corrected, d, some ⟨c, w, q⟩⟩) ∧
  ((∀ (d : LineData) (w i : Nat), w < 8 → i < 64 → (dataWord d w).getLsbD i = d.getLsbD (64 * w + i)) ∧
    (∀ (d : LineData) (w j : Nat), w < 8 → j < 8 →
      (dataWord d w).extractLsb' (8 * j) 8 = d.extractLsb' (8 * (8 * w + j)) 8) ∧
    (∀ (bits : StoredLine) (w q : Nat), w < 8 → q < 72 → (storedWord bits w).getLsbD q = bits.getLsbD (72 * w + q)) ∧
    (∀ (d : LineData) (w : Nat), w < 8 → storedWord (encodeLine d) w = encodeWord (dataWord d w)) ∧
    (∀ (l : LineAddr) (c : Column) (p : Place) (bits : StoredLine) (w : Nat), w < 8 →
      dataWord (decodeLine l c p bits).data w = delivered (storedWord bits w))) ∧
  (∀ (s : State) (l : LineAddr) (p : Place) (damage : StoredLine),
    readLine s l p damage = decodeLine l (lineColumn l) p (s.media.stored (physLine l p) ^^^ damage)) ∧
  (∀ d : LineData, (LineContent.data d).stored = encodeLine d) ∧ LineContent.mark.stored = markLine ∧
  (∀ (s u : State) (l : LineAddr) (targets : List Place) (content : LineContent), Written s.media u.media l targets content →
    ∀ p ∈ targets,
      (∀ d : LineData, content = .data d → readLine u l p 0 = ⟨l, p, .clean, d, none⟩) ∧
      (content = .mark → readLine u l p 0 = ⟨l, p, .mark, 0, none⟩))

/-- R23, R24: the mark has ones at the eight check positions of each word and nowhere else; it decodes MARK with zero data;
with any one bit flipped the line is UNCORRECTABLE. -/
def Obligations.PoisonMarkDecodes : Prop :=
  (∀ w : Fin 8, storedWord markLine w.val = markWord) ∧
  (∀ q : Fin 72, markWord.getLsbD q.val = decide (q.val ∈ [0, 1, 2, 4, 8, 16, 32, 64])) ∧
  (∀ (l : LineAddr) (c : Column) (p : Place),
    decodeLine l c p markLine = ⟨l, p, .mark, 0, none⟩ ∧
    ∀ (w : Fin 8) (q : Fin 72),
      (decodeLine l c p (markLine ^^^ BitVec.twoPow 576 (72 * w.val + q.val))).outcome = .uncorrectable ∧
      (decodeLine l c p (markLine ^^^ BitVec.twoPow 576 (72 * w.val + q.val))).cell = none)

/-- R25: the line outcome from the outcomes of the eight words. R27: a CORRECTED line reports the cell of its lowest CORRECTED
word; any other line reports no cell. -/
def Obligations.LineOutcomeFromWords : Prop :=
  (∀ bits : StoredLine,
    (lineOutcome bits = .mark ↔
      ∀ w : Fin 8, syndrome (storedWord bits w.val) = 127 ∧ parity (storedWord bits w.val) = false) ∧
    (lineOutcome bits = .uncorrectable ↔
      lineOutcome bits ≠ .mark ∧ ∃ w : Fin 8, wordOutcome (storedWord bits w.val) = .uncorrectable) ∧
    (lineOutcome bits = .corrected ↔
      (∀ w : Fin 8, wordOutcome (storedWord bits w.val) ≠ .uncorrectable) ∧
      ∃ (w : Fin 8) (q : Fin 72), wordOutcome (storedWord bits w.val) = .corrected q) ∧
    (lineOutcome bits = .clean ↔ ∀ w : Fin 8, wordOutcome (storedWord bits w.val) = .clean)) ∧
  (∀ (l : LineAddr) (c : Column) (p : Place) (bits : StoredLine),
    (lineOutcome bits ≠ .corrected → (decodeLine l c p bits).cell = none) ∧
    (lineOutcome bits = .corrected → ∃ (w : Fin 8) (q : Fin 72),
      (decodeLine l c p bits).cell = some ⟨c, w, q⟩ ∧ wordOutcome (storedWord bits w.val) = .corrected q ∧
      ∀ w' : Fin 8, w' < w → wordOutcome (storedWord bits w'.val) = .clean))

/-! ### The front link (spec/03) -/

/-- R32, R33, R34: RESET_BEGIN, and RESET_END while a link reset is in progress. -/
def Obligations.LinkResetFrames : Prop :=
  (∀ s : State, s.link.state = .down → exec .resetBegin s = .next { s with link := ⟨.down, true, false⟩ }) ∧
  (∀ s : State, s.link.state ≠ .down →
    exec .resetBegin s = .next { s with
      link := ⟨.down, true, false⟩
      ops := s.ops.map fun o => { o with tag := none }
      quiet := s.quiet.report s.params 0 }) ∧
  (∀ s : State, s.link.state = .down → s.link.resetInProgress = true → s.phase = .running →
    exec .resetEnd s = .next { s with link := ⟨.up, false, false⟩, linkOut := s.linkOut ++ [.ready] }) ∧
  (∀ s : State, s.link.state = .down → s.link.resetInProgress = true → s.phase = .loading →
    exec .resetEnd s = .next { s with link := ⟨.down, false, true⟩ })

/-- R37 to R39: what takes the link from UP to FAULT, and that nothing else changes but the LINK_FAULT flag. -/
def Obligations.LinkFaultEntry : Prop :=
  ∀ (s : State) (c : Instr), s.link.state = .up →
    (c = .resetEnd ∨ (∃ cause : BadFrameCause, cause.isBad = true ∧ c = .badFrame cause) ∨
      ∃ (t : Tag), (∃ o ∈ s.ops, o.tag = some t) ∧
        ((∃ l, c = .rd t l) ∨ (∃ l d, c = .wr t l d) ∨ (∃ l d e, c = .mwr t l d e))) →
    exec c s = .next { s with
      link := { s.link with state := .fault }
      attn := { s.attn with flags := s.attn.flags ||| BitVec.twoPow 10 9 } }

/-- R30, R32, R37: what is discarded. -/
def Obligations.FramesDiscarded : Prop :=
  (∀ (s : State) (c : Instr), s.link.state ≠ .up →
    ((∃ cause : BadFrameCause, cause.isBad = true ∧ c = .badFrame cause) ∨ (∃ t l, c = .rd t l) ∨
      (∃ t l d, c = .wr t l d) ∨ (∃ t l d e, c = .mwr t l d e)) →
    exec c s = .next s) ∧
  (∀ s : State, s.link.state = .fault ∨ (s.link.state = .down ∧ s.link.resetInProgress = false) →
    exec .resetEnd s = .next s)

/-- R38, R40, R42, R52, R102, R103: a request whose tag is free is taken. A write overtakes the open reads of its line and
removes the line's writeback entry. -/
def Obligations.RequestsTaken : Prop :=
  (∀ (s : State) (t : Tag) (l : LineAddr), s.link.state = .up → (∀ o ∈ s.ops, o.tag ≠ some t) →
    exec (.rd t l) s = .next { s with
      ops := s.ops ++ [⟨l, .rd, some t, .waiting, some false⟩]
      quiet := s.quiet.report s.params (occupancy s + 1) }) ∧
  (∀ (s : State) (t : Tag) (l : LineAddr) (k : OpKind) (c : Instr) (entry : Option Bool),
    s.link.state = .up → (∀ o ∈ s.ops, o.tag ≠ some t) →
    ((∃ d, k = .wr d ∧ c = .wr t l d ∧ entry = none) ∨ (∃ d e, k = .mwr d e ∧ c = .mwr t l d e ∧ entry = some false)) →
    exec c s = .next { s with
      ops := (s.ops.map fun o => if o.line = l then { o with openRead := o.openRead.map fun _ => true } else o) ++
        [⟨l, k, some t, .waiting, entry⟩]
      wbQueue := s.wbQueue.filter fun e => e.line != l
      counters := { s.counters with wbSuperseded :=
        if (∃ e ∈ s.wbQueue, e.line = l) then min (s.counters.wbSuperseded + 1) 4294967295 else s.counters.wbSuperseded }
      quiet := s.quiet.report s.params (occupancy s + 1) })

/-- R41, R43, R106: the issue of a read that holds tag `t`: answered from the poison list, answered from the Writeback
Queue, or read from the media. -/
def Obligations.ReadIssued : Prop :=
  ∀ (s : State) (l : LineAddr) (o : Op) (t : Tag),
    headOp s l = some o → o.kind = .rd → o.stage = .waiting → o.tag = some t →
    (listsColumn (lineRecord s l) (lineColumn l) = true →
      exec (.rdIssue l) s = .next (returned l (.rret t .poisoned 0)
        { s with counters := { s.counters with poisonReads := min (s.counters.poisonReads + 1) 4294967295 } })) ∧
    (listsColumn (lineRecord s l) (lineColumn l) = false →
      (∀ d : LineData, wbEntry s l = some ⟨l, .data d⟩ →
        exec (.rdIssue l) s = .next (returned l (.rret t .clean d) s)) ∧
      (wbEntry s l = some ⟨l, .mark⟩ →
        exec (.rdIssue l) s = .next (returned l (.rret t .poisoned 0)
          { s with counters := { s.counters with poisonReads := min (s.counters.poisonReads + 1) 4294967295 } })) ∧
      (wbEntry s l = none →
        exec (.rdIssue l) s = .next { s with
          ops := stagedOps s l (.reading (readTarget (lineRecord s l) (lineColumn l)).1
            (readTarget (lineRecord s l) (lineColumn l)).2 s.stamps)
          stamps := s.stamps + 1 }))

/-- R44, R46, R51: the completion of a read that holds tag `t` and is not to be served again (R45), by its line outcome: the
event, then the writeback request, then the verify request, then the return; EventWithoutRecord, CorrectionEventScored and
LossEventScored say what the event does, QueueRequestsHandled what the requests do. -/
def Obligations.ReadCompleted : Prop :=
  ∀ (s : State) (l : LineAddr) (damage : StoredLine) (o : Op) (t : Tag) (p : Place),
    completing s l = some o → o.kind = .rd → o.tag = some t →
    ((∃ n, o.stage = .rereading p n) ∨
      ∃ via n, o.stage = .reading p via n ∧ mustReserve s l p via (readLine s l p damage) = false) →
    listsColumn (lineRecord s l) (lineColumn l) = false →
    ((readLine s l p damage).outcome = .clean →
      exec (.rdMediaReadComplete l damage) s = .next (returned l (.rret t .clean (readLine s l p damage).data) s)) ∧
    ((readLine s l p damage).outcome = .mark →
      exec (.rdMediaReadComplete l damage) s = .next (returned l (.rret t .poisoned 0)
        { s with counters := { s.counters with poisonReads := min (s.counters.poisonReads + 1) 4294967295 } })) ∧
    (∀ c : Cell, (readLine s l p damage).outcome = .corrected → (readLine s l p damage).cell = some c →
      ∃ u : State, exec (.rdMediaReadComplete l damage) s = .next u ∧
        u = returned l (.rret t .corrected (readLine s l p damage).data)
          (requestVerify l (requestWriteback l (.data (readLine s l p damage).data) o.overtaken
            (receiveEvent ⟨l, .hostRead, .correction c⟩ s))) ∧
        u.linkOut = s.linkOut ++ [.rret t .corrected (readLine s l p damage).data] ∧
        u.ops = s.ops.eraseP (fun o => o.line == l) ∧
        u.wbQueue = (requestWriteback l (.data (readLine s l p damage).data) o.overtaken s).wbQueue ∧
        u.verifyQueue = (requestVerify l s).verifyQueue ∧
        u.counters.hostCorrected = min (s.counters.hostCorrected + 1) 4294967295 ∧
        u = { receiveEvent ⟨l, .hostRead, .correction c⟩ s with
          linkOut := u.linkOut, ops := u.ops, wbQueue := u.wbQueue, verifyQueue := u.verifyQueue
          counters := (requestVerify l (requestWriteback l (.data (readLine s l p damage).data) o.overtaken
            (receiveEvent ⟨l, .hostRead, .correction c⟩ s))).counters
          quiet := s.quiet.report s.params (occupancy s - 1) }) ∧
    ((readLine s l p damage).outcome = .uncorrectable →
      ∃ u : State, exec (.rdMediaReadComplete l damage) s = .next u ∧
        u = returned l (.rret t .poisoned 0)
          (requestWriteback l .mark o.overtaken (receiveEvent ⟨l, .hostRead, .uncorrectable⟩ s)) ∧
        u.linkOut = s.linkOut ++ [.rret t .poisoned 0] ∧
        u.ops = s.ops.eraseP (fun o => o.line == l) ∧
        u.wbQueue = (requestWriteback l .mark o.overtaken s).wbQueue ∧
        u.counters.uncorrectable = min (s.counters.uncorrectable + 1) 4294967295 ∧
        u = { receiveEvent ⟨l, .hostRead, .uncorrectable⟩ s with
          linkOut := u.linkOut, ops := u.ops, wbQueue := u.wbQueue
          counters := (requestWriteback l .mark o.overtaken (receiveEvent ⟨l, .hostRead, .uncorrectable⟩ s)).counters
          quiet := s.quiet.report s.params (occupancy s - 1) })

/-- R45, R49, R114, R158 to R160: a read routed to a migration's destination `d`, a host read, the read half of a masked write or
a verify read, that decodes CORRECTED or UNCORRECTABLE while `d` is not the record's home: it raises and requests nothing, and
is served again from the home, at the head of its line order. While the record is still MIGRATING onto `d` it ends the attempt;
otherwise nothing else changes. Which reads are served again (`mustReserve`): those routed to a destination, decoded CORRECTED
or UNCORRECTABLE, whose place is not the home; so a CLEAN or MARK decode, a destination that has become the home, and a read of
the source or home are delivered. That "onto `d`" is judged by the spare's index is log 19. -/
def Obligations.DestinationReadServedAgain : Prop :=
  (∀ (s : State) (l : LineAddr) (p : Place) (viaDest : Bool) (d : Decode), mustReserve s l p viaDest d = true ↔
    viaDest = true ∧ (d.outcome = .corrected ∨ d.outcome = .uncorrectable) ∧ homePlace (lineRecord s l) ≠ p) ∧
  ∀ (s : State) (l : LineAddr) (damage : StoredLine) (o : Op) (d : SpareIdx) (n : Nat) (c : Instr),
    completing s l = some o → o.stage = .reading (.spare d) true n →
    ((o.kind = .rd ∧ c = .rdMediaReadComplete l damage) ∨
      (∃ new enables, o.kind = .mwr new enables ∧ c = .mwrReadHalfComplete l damage) ∨
      (o.kind = .verify ∧ s.slot = some (.verify l) ∧ c = .verifyReadComplete damage)) →
    ((readLine s l (.spare d) damage).outcome = .corrected ∨ (readLine s l (.spare d) damage).outcome = .uncorrectable) →
    (∀ (r : Record), lineRecord s l = some r → r.state = .migrating → r.destSpare = some d → r.homeSpare ≠ some d →
      ∃ u : State, exec c s = .next u ∧
        headOp u l = some { o with stage := .rereading (homePlace (some r)) s.stamps } ∧
        u.ops = stagedOps s l (.rereading (homePlace (some r)) s.stamps) ∧
        spareState u.spares (keyPos (lineKey l)) d = .burned ∧
        u.counters.sparesBurned = min (s.counters.sparesBurned + 1) 4294967295 ∧
        (∀ g : MigSub, r.migration = some g → AttemptFailed s u r g d) ∧
        StepOrphaned s u ∧
        u = { s with
          ops := u.ops, stamps := s.stamps + 1, table := u.table, spares := u.spares, queue := u.queue, engine := u.engine
          slot := u.slot, persist := u.persist, counters := u.counters, attn := u.attn } ∧
        ∃ r' : Record, lineRecord u l = some r' ∧ r'.destSpare ≠ some d ∧
          r'.weight = r.weight ∧ r'.corrections = r.corrections ∧ r'.poison = r.poison) ∧
    (homePlace (lineRecord s l) ≠ .spare d →
      (∀ r : Record, lineRecord s l = some r → r.state ≠ .migrating ∨ r.destSpare ≠ some d) →
      exec c s = .next { s with
        ops := stagedOps s l (.rereading (homePlace (lineRecord s l)) s.stamps)
        stamps := s.stamps + 1 })

/-- R47: the status of a read return at the read's completion, and the data of a POISONED one. -/
def Obligations.PoisonListedReturnsPoisoned : Prop :=
  ∀ (s u : State) (c : Instr) (l : LineAddr) (t : Tag) (status : ReadStatus) (data : LineData),
    (c = .rdIssue l ∨ ∃ damage : StoredLine, c = .rdMediaReadComplete l damage) →
    exec c s = .next u → u.linkOut = s.linkOut ++ [.rret t status data] →
    ((∃ r : Record, lineRecord u l = some r ∧ lineColumn l ∈ r.poison) → status = .poisoned) ∧
    (status = .poisoned → data = 0)

/-- R48, R50, R13, R15, R157: the issue of a WR, and the completion of the media writes of a WR or of an MWR's write half for which
no copy step waits (HostWriteCancelsCopy has the ones that end a column): every target holds the content, and the marked-column
set of a migration whose destination is among them follows. That a write lands at its completion is the model's choice
(log 14). R147: media operations on one physical line complete in the order of their issue, which the stamps number (log 14): an
operation is `completing` when it is the head of its line's order and none in flight on a physical line of its own was issued
before it; the completion of any other does not take place (log 1). -/
def Obligations.HostWritePerformed : Prop :=
  (∀ (s : State) (l : LineAddr) (o : Op) (d : LineData), headOp s l = some o → o.kind = .wr d → o.stage = .waiting →
    exec (.wrIssue l) s = .next { s with
      table := unpoisoned s l
      ops := stagedOps s l (.writing (writeTargets s l) (.data d) s.stamps)
      stamps := s.stamps + 1 }) ∧
  (∀ (s : State) (l : LineAddr) (o : Op) (t : Tag) (targets : List Place) (content : LineContent) (n : Nat) (c : Instr),
    completing s l = some o → o.tag = some t → o.stage = .writing targets content n →
    ((∃ d, o.kind = .wr d ∧ c = .wrWriteComplete l) ∨ (∃ d e, o.kind = .mwr d e ∧ c = .mwrWriteHalfComplete l)) →
    awaitedContent s l = none →
    ∃ (m : Media) (marked : List Column),
      exec c s = .next (returned l (.wret t .done) { s with media := m, engine := { s.engine with marked := marked } }) ∧
      Written s.media m l targets content ∧ MarkedFollows s l targets content marked ∧
      (NotMigrating s l → exec c s = .next (returned l (.wret t .done) { s with media := m }))) ∧
  (∀ o : Op,
    (o.stage = .waiting → o.physLines = []) ∧
    (∀ (p : Place) (via : Bool) (n : Nat), o.stage = .reading p via n →
      o.physLines = [physLine o.line p] ∧ o.stage.stamp = n) ∧
    (∀ (p : Place) (n : Nat), o.stage = .rereading p n → o.physLines = [physLine o.line p] ∧ o.stage.stamp = n) ∧
    (∀ (targets : List Place) (content : LineContent) (n : Nat), o.stage = .writing targets content n →
      o.physLines = targets.map (physLine o.line) ∧ o.stage.stamp = n)) ∧
  (∀ (s : State) (l : LineAddr) (o : Op), completing s l = some o ↔
    headOp s l = some o ∧ ∀ o' ∈ s.ops, o'.stage.stamp < o.stage.stamp → ∀ n ∈ o'.physLines, n ∉ o.physLines) ∧
  (∀ (s : State) (l : LineAddr) (o o' : Op) (n : Nat) (damage : StoredLine) (c : Instr), headOp s l = some o → o' ∈ s.ops →
    o'.stage.stamp < o.stage.stamp → n ∈ o'.physLines → n ∈ o.physLines →
    (c ∈ [.rdMediaReadComplete l damage, .wrWriteComplete l, .mwrReadHalfComplete l damage, .mwrWriteHalfComplete l] ∨
      (s.slot = some (.writeback l) ∧ c = .writebackComplete) ∨
      (s.slot = some (.verify l) ∧ c = .verifyReadComplete damage) ∨
      (s.slot = some (.patrol l) ∧ c = .patrolLineReadComplete damage) ∨
      (∃ st : MigStep, s.engine.step = some st ∧ st.line = l ∧
        c ∈ [.copyReadComplete damage, .copyWriteComplete, .checkReadComplete damage])) →
    exec c s = .next s)

/-- R49, R50: the issue of an MWR's read half, and its completion: served again where the destination of a migration failed it
(R45; DestinationReadServedAgain says the rest), the write half issued to the write targets as the record then stands, or the
poison kept. `hostWriteGivenUp` is what a copy step that waits for the MWR makes of that (R156): nothing where none waits; where
one does, HostWriteCancelsCopy says what. Byte `b` of the merged line comes from the request when it is enabled, from the line
read when it is not. -/
def Obligations.MaskedReadHalf : Prop :=
  (∀ (s : State) (l : LineAddr) (o : Op) (t : Tag) (new : LineData) (enables : BitVec 64),
    o.kind = .mwr new enables → o.tag = some t →
    (headOp s l = some o → o.stage = .waiting →
      (listsColumn (lineRecord s l) (lineColumn l) = true →
        exec (.mwrReadHalfIssue l) s = .next (hostWriteGivenUp l (returned l (.wret t .poisonKept) s))) ∧
      (listsColumn (lineRecord s l) (lineColumn l) = false →
        exec (.mwrReadHalfIssue l) s = .next { s with
          ops := stagedOps s l (.reading (readTarget (lineRecord s l) (lineColumn l)).1
            (readTarget (lineRecord s l) (lineColumn l)).2 s.stamps)
          stamps := s.stamps + 1 })) ∧
    (∀ (damage : StoredLine) (p : Place) (n : Nat), completing s l = some o → o.stage = .reading p true n →
      mustReserve s l p true (readLine s l p damage) = true →
      ∃ (u : State) (place : Place), exec (.mwrReadHalfComplete l damage) s = .next u ∧
        headOp u l = some { o with stage := .rereading place s.stamps } ∧ place = homePlace (lineRecord s l) ∧
        u.linkOut = s.linkOut ∧ u.media = s.media ∧ u.wbQueue = s.wbQueue ∧ u.verifyQueue = s.verifyQueue) ∧
    (∀ (damage : StoredLine) (p : Place), completing s l = some o →
      ((∃ n, o.stage = .rereading p n) ∨
        ∃ via n, o.stage = .reading p via n ∧ mustReserve s l p via (readLine s l p damage) = false) →
      ((readLine s l p damage).outcome = .clean →
        exec (.mwrReadHalfComplete l damage) s = .next { s with
          table := unpoisoned s l
          ops := modifyFirst (fun o => o.line == l) (fun o => { o with
            stage := .writing (writeTargets s l) (.data (mergeBytes (readLine s l p damage).data new enables)) s.stamps
            openRead := none }) s.ops
          stamps := s.stamps + 1 }) ∧
      (∀ c : Cell, (readLine s l p damage).outcome = .corrected → (readLine s l p damage).cell = some c →
        ∃ u : State, exec (.mwrReadHalfComplete l damage) s = .next u ∧
          u = { receiveEvent ⟨l, .maskedWrite, .correction c⟩ s with
            table := unpoisoned (receiveEvent ⟨l, .maskedWrite, .correction c⟩ s) l
            ops := modifyFirst (fun o => o.line == l) (fun o => { o with
              stage := .writing (writeTargets (receiveEvent ⟨l, .maskedWrite, .correction c⟩ s) l)
                (.data (mergeBytes (readLine s l p damage).data new enables)) s.stamps
              openRead := none }) s.ops
            stamps := s.stamps + 1 } ∧
          headOp u l = some { o with
            stage := .writing (writeTargets (receiveEvent ⟨l, .maskedWrite, .correction c⟩ s) l)
              (.data (mergeBytes (readLine s l p damage).data new enables)) s.stamps
            openRead := none } ∧
          homePlace (lineRecord s l) ∈ writeTargets (receiveEvent ⟨l, .maskedWrite, .correction c⟩ s) l ∧
          u.counters.hostCorrected = min (s.counters.hostCorrected + 1) 4294967295) ∧
      ((readLine s l p damage).outcome = .mark →
        exec (.mwrReadHalfComplete l damage) s = .next (hostWriteGivenUp l (returned l (.wret t .poisonKept) s))) ∧
      ((readLine s l p damage).outcome = .uncorrectable →
        ∃ u : State, exec (.mwrReadHalfComplete l damage) s = .next (hostWriteGivenUp l u) ∧
          u = returned l (.wret t .poisonKept)
            (requestWriteback l .mark o.overtaken (receiveEvent ⟨l, .maskedWrite, .uncorrectable⟩ s)) ∧
          u.linkOut = s.linkOut ++ [.wret t .poisonKept] ∧ u.ops = s.ops.eraseP (fun o => o.line == l) ∧
          u.wbQueue = (requestWriteback l .mark o.overtaken s).wbQueue ∧
          u.counters.uncorrectable = min (s.counters.uncorrectable + 1) 4294967295))) ∧
  (∀ (s : State) (l : LineAddr), awaitedContent s l = none → hostWriteGivenUp l s = s) ∧
  (∀ (old new : LineData) (enables : BitVec 64) (b : Nat), b < 64 →
    (mergeBytes old new enables).extractLsb' (8 * b) 8 =
      if enables.getLsbD b then new.extractLsb' (8 * b) 8 else old.extractLsb' (8 * b) 8)

/-- R34, R51: performing an orphan sends nothing and changes no occupancy. An orphan read takes its data where any read does, leaves
its line order when it completes, raises its event and makes its requests; an orphan MWR issues its write half or keeps the
poison; an orphan write still writes. An orphan that is served again is in DestinationReadServedAgain. That a write lands at its
completion is the model's choice (log 14). -/
def Obligations.OrphansSendNothing : Prop :=
  (∀ (s u : State) (c : Instr) (l : LineAddr) (o : Op), headOp s l = some o → o.tag = none →
    (c = .rdIssue l ∨ c = .wrIssue l ∨ c = .wrWriteComplete l ∨ c = .mwrReadHalfIssue l ∨ c = .mwrWriteHalfComplete l ∨
      ∃ damage : StoredLine, c = .rdMediaReadComplete l damage ∨ c = .mwrReadHalfComplete l damage) →
    exec c s = .next u → u.linkOut = s.linkOut ∧ occupancy u = occupancy s) ∧
  (∀ (s : State) (l : LineAddr) (o : Op), headOp s l = some o → o.tag = none → o.kind = .rd → o.stage = .waiting →
    (listsColumn (lineRecord s l) (lineColumn l) = true →
      exec (.rdIssue l) s = .next (unanswered l
        { s with counters := { s.counters with poisonReads := min (s.counters.poisonReads + 1) 4294967295 } })) ∧
    (listsColumn (lineRecord s l) (lineColumn l) = false →
      (∀ d : LineData, wbEntry s l = some ⟨l, .data d⟩ → exec (.rdIssue l) s = .next (unanswered l s)) ∧
      (wbEntry s l = some ⟨l, .mark⟩ →
        exec (.rdIssue l) s = .next (unanswered l
          { s with counters := { s.counters with poisonReads := min (s.counters.poisonReads + 1) 4294967295 } })))) ∧
  (∀ (s : State) (l : LineAddr) (damage : StoredLine) (o : Op) (p : Place),
    completing s l = some o → o.tag = none →
    ((∃ n, o.stage = .rereading p n) ∨
      ∃ via n, o.stage = .reading p via n ∧ mustReserve s l p via (readLine s l p damage) = false) →
    (o.kind = .rd →
      ((readLine s l p damage).outcome = .clean →
        exec (.rdMediaReadComplete l damage) s = .next (unanswered l s)) ∧
      ((readLine s l p damage).outcome = .mark →
        exec (.rdMediaReadComplete l damage) s = .next (unanswered l
          { s with counters := { s.counters with poisonReads := min (s.counters.poisonReads + 1) 4294967295 } })) ∧
      (∀ c : Cell, (readLine s l p damage).outcome = .corrected → (readLine s l p damage).cell = some c →
        ∃ u : State, exec (.rdMediaReadComplete l damage) s = .next u ∧
          u = unanswered l (requestVerify l (requestWriteback l (.data (readLine s l p damage).data) o.overtaken
            (receiveEvent ⟨l, .hostRead, .correction c⟩ s))) ∧
          u.ops = s.ops.eraseP (fun o => o.line == l) ∧
          u.wbQueue = (requestWriteback l (.data (readLine s l p damage).data) o.overtaken s).wbQueue ∧
          u.verifyQueue = (requestVerify l s).verifyQueue ∧
          u.counters.hostCorrected = min (s.counters.hostCorrected + 1) 4294967295) ∧
      ((readLine s l p damage).outcome = .uncorrectable →
        ∃ u : State, exec (.rdMediaReadComplete l damage) s = .next u ∧
          u = unanswered l (requestWriteback l .mark o.overtaken (receiveEvent ⟨l, .hostRead, .uncorrectable⟩ s)) ∧
          u.ops = s.ops.eraseP (fun o => o.line == l) ∧
          u.wbQueue = (requestWriteback l .mark o.overtaken s).wbQueue ∧
          u.counters.uncorrectable = min (s.counters.uncorrectable + 1) 4294967295)) ∧
    (∀ (new : LineData) (enables : BitVec 64), o.kind = .mwr new enables →
      ((readLine s l p damage).outcome = .clean →
        exec (.mwrReadHalfComplete l damage) s = .next { s with
          table := unpoisoned s l
          ops := modifyFirst (fun o => o.line == l) (fun o => { o with
            stage := .writing (writeTargets s l) (.data (mergeBytes (readLine s l p damage).data new enables)) s.stamps
            openRead := none }) s.ops
          stamps := s.stamps + 1 }) ∧
      (∀ c : Cell, (readLine s l p damage).outcome = .corrected → (readLine s l p damage).cell = some c →
        exec (.mwrReadHalfComplete l damage) s = .next { receiveEvent ⟨l, .maskedWrite, .correction c⟩ s with
          table := unpoisoned (receiveEvent ⟨l, .maskedWrite, .correction c⟩ s) l
          ops := modifyFirst (fun o => o.line == l) (fun o => { o with
            stage := .writing (writeTargets (receiveEvent ⟨l, .maskedWrite, .correction c⟩ s) l)
              (.data (mergeBytes (readLine s l p damage).data new enables)) s.stamps
            openRead := none }) s.ops
          stamps := s.stamps + 1 }) ∧
      ((readLine s l p damage).outcome = .mark →
        exec (.mwrReadHalfComplete l damage) s = .next (hostWriteGivenUp l (unanswered l s))) ∧
      ((readLine s l p damage).outcome = .uncorrectable →
        exec (.mwrReadHalfComplete l damage) s = .next (hostWriteGivenUp l (unanswered l
          (requestWriteback l .mark o.overtaken (receiveEvent ⟨l, .maskedWrite, .uncorrectable⟩ s))))))) ∧
  (∀ (s : State) (l : LineAddr) (o : Op) (new : LineData) (enables : BitVec 64), headOp s l = some o → o.tag = none →
    o.kind = .mwr new enables → o.stage = .waiting →
    (listsColumn (lineRecord s l) (lineColumn l) = true →
      exec (.mwrReadHalfIssue l) s = .next (hostWriteGivenUp l (unanswered l s)))) ∧
  (∀ (s : State) (l : LineAddr) (o : Op) (c : Instr), headOp s l = some o → o.tag = none → o.stage = .waiting →
    listsColumn (lineRecord s l) (lineColumn l) = false →
    ((o.kind = .rd ∧ wbEntry s l = none ∧ c = .rdIssue l) ∨
      ∃ new enables, o.kind = .mwr new enables ∧ c = .mwrReadHalfIssue l) →
    exec c s = .next { s with
      ops := stagedOps s l (.reading (readTarget (lineRecord s l) (lineColumn l)).1
        (readTarget (lineRecord s l) (lineColumn l)).2 s.stamps)
      stamps := s.stamps + 1 }) ∧
  (∀ (s : State) (l : LineAddr) (o : Op) (targets : List Place) (content : LineContent) (n : Nat) (c : Instr),
    completing s l = some o → o.tag = none → o.stage = .writing targets content n →
    ((∃ d, o.kind = .wr d ∧ c = .wrWriteComplete l) ∨ (∃ d e, o.kind = .mwr d e ∧ c = .mwrWriteHalfComplete l)) →
    awaitedContent s l = none →
    ∃ (m : Media) (marked : List Column),
      exec c s = .next (unanswered l { s with media := m, engine := { s.engine with marked := marked } }) ∧
      Written s.media m l targets content ∧ MarkedFollows s l targets content marked)

/-! ### The fault table and its scores (spec/04, spec/05) -/

/-- R60, R61, R84 to R88, R92: a correction event on a row that has a record. `r'` is the record after the event, `r₁` the record
as scored, before its evaluation is applied: EvaluationOutcomes says what the evaluation decides and what applying it makes of
the record's state and urgency and of the migration queue. -/
def Obligations.CorrectionEventScored : Prop :=
  ∀ (s : State) (l : LineAddr) (origin : Origin) (c : Cell) (r : Record) (inc : Nat),
    lineRecord s l = some r →
    ((origin = .hostRead ∨ origin = .maskedWrite) ∧ inc = s.params.wHost ∨
      (origin = .patrol ∨ origin = .verify ∨ origin = .copy) ∧ inc = s.params.wPatrol) →
    ∃ r' : Record, lineRecord (receiveEvent ⟨l, origin, .correction c⟩ s) l = some r' ∧
      r'.corrections = min (r.corrections + 1) 65535 ∧
      (r.signature = none → r'.signature = some ⟨c, 1⟩ ∧ r'.weight = min 4095 (r.weight + inc)) ∧
      (∀ n : Nat, r.signature = some ⟨c, n⟩ →
        r'.signature = some ⟨c, min (n + 1) 15⟩ ∧ r'.weight = min 4095 (r.weight + inc + s.params.bonus)) ∧
      (∀ c' : Cell, c' ≠ c → r.signature = some ⟨c', 1⟩ →
        r'.signature = some ⟨c, 1⟩ ∧ r'.weight = min 4095 (r.weight + inc)) ∧
      (∀ (c' : Cell) (n : Nat), c' ≠ c → 2 ≤ n → r.signature = some ⟨c', n⟩ →
        r'.signature = r.signature ∧ r'.weight = min 4095 (r.weight + inc)) ∧
      r'.slot = r.slot ∧ r'.key = r.key ∧ r'.origin = r.origin ∧ r'.homeSpare = r.homeSpare ∧ r'.poison = r.poison ∧
      r'.overflow = r.overflow ∧ r'.pinned = r.pinned ∧ r'.blocked = r.blocked ∧ r'.persisted = r.persisted ∧
      r'.persistWanted = r.persistWanted ∧
      (receiveEvent ⟨l, origin, .correction c⟩ s).counters =
        (if origin = .hostRead ∨ origin = .maskedWrite
          then { s.counters with hostCorrected := min (s.counters.hostCorrected + 1) 4294967295 }
          else { s.counters with patrolCorrected := min (s.counters.patrolCorrected + 1) 4294967295 }) ∧
      ∃ (table : List Record) (spares : Sparse SpareUse) (queue : MigQueue) (marked : List Column) (attn : Attention),
        receiveEvent ⟨l, origin, .correction c⟩ s = { s with
          table := table, spares := spares, queue := queue, engine := { s.engine with marked := marked }, attn := attn
          counters := (receiveEvent ⟨l, origin, .correction c⟩ s).counters } ∧
      ∃ r₁ : Record, r₁ = { r with
          corrections := min (r.corrections + 1) 65535, signature := r'.signature, weight := r'.weight } ∧
        receiveEvent ⟨l, origin, .correction c⟩ s = applyVerdict r₁ (evaluate s.params false r₁) { s with
          table := s.table.map fun x => if x.key = lineKey l then r₁ else x
          counters := (receiveEvent ⟨l, origin, .correction c⟩ s).counters }

/-- R89, R90, R91, R92: a fresh-uncorrectable event on a row that has a record. `r'` is the record after the event, `r₁` the record
as scored, before its evaluation is applied (EvaluationOutcomes). -/
def Obligations.LossEventScored : Prop :=
  ∀ (s : State) (l : LineAddr) (origin : Origin) (r : Record), lineRecord s l = some r →
    ∃ r' : Record, lineRecord (receiveEvent ⟨l, origin, .uncorrectable⟩ s) l = some r' ∧
      r'.corrections = min (r.corrections + 1) 65535 ∧ r'.weight = 4095 ∧ r'.signature = r.signature ∧
      (lineColumn l ∈ r.poison → r'.poison = r.poison ∧ r'.overflow = r.overflow ∧
        (receiveEvent ⟨l, origin, .uncorrectable⟩ s).attn.isSet .uncorrectable = s.attn.isSet .uncorrectable) ∧
      (lineColumn l ∉ r.poison → r.poison.length < 4 →
        r'.poison = r.poison ++ [lineColumn l] ∧ r'.overflow = r.overflow ∧
        (receiveEvent ⟨l, origin, .uncorrectable⟩ s).attn.isSet .uncorrectable = true) ∧
      (lineColumn l ∉ r.poison → 4 ≤ r.poison.length →
        r'.poison = r.poison ∧ r'.overflow = true ∧
        (receiveEvent ⟨l, origin, .uncorrectable⟩ s).attn.isSet .uncorrectable = true) ∧
      r'.slot = r.slot ∧ r'.key = r.key ∧ r'.origin = r.origin ∧ r'.homeSpare = r.homeSpare ∧ r'.pinned = r.pinned ∧
      r'.blocked = r.blocked ∧ r'.persisted = r.persisted ∧ r'.persistWanted = r.persistWanted ∧
      ∃ (table : List Record) (spares : Sparse SpareUse) (queue : MigQueue) (marked : List Column) (attn : Attention),
        receiveEvent ⟨l, origin, .uncorrectable⟩ s = { s with
          table := table, spares := spares, queue := queue, engine := { s.engine with marked := marked }, attn := attn
          counters := { s.counters with uncorrectable := min (s.counters.uncorrectable + 1) 4294967295 } } ∧
      ∃ r₁ : Record, r₁ = { r with
          corrections := min (r.corrections + 1) 65535, weight := 4095, poison := r'.poison, overflow := r'.overflow } ∧
        receiveEvent ⟨l, origin, .uncorrectable⟩ s = applyVerdict r₁ (evaluate s.params true r₁) { s with
          table := s.table.map fun x => if x.key = lineKey l then r₁ else x
          counters := { s.counters with uncorrectable := min (s.counters.uncorrectable + 1) 4294967295 }
          attn := if lineColumn l ∈ r.poison then s.attn
            else { s.attn with flags := s.attn.flags ||| BitVec.twoPow 10 0 } }

/-- R92, R93, R94: what the evaluation decides, for every state of the record. R92 to R95: what applying it makes of the record
and of the migration queue; a record entering QUEUED, or made urgent in it, joins at the end of its section within the same
event, and the engine then takes the head if it is idle (`serveQueue`, of which EngineTakesHead speaks). -/
def Obligations.EvaluationOutcomes : Prop :=
  (∀ (p : Params) (loss : Bool) (r : Record) (sparing : Bool),
    (sparing = true ↔ p.tSpare ≤ r.weight ∨ ∃ g : Signature, r.signature = some g ∧ p.stuck ≤ g.repeats) →
    (r.blocked = false → (r.state = .watch ∨ r.state = .suspect ∨ r.state = .spared) →
      evaluate p loss r =
        if loss then .enqueue true else if sparing then .enqueue false
        else if p.tSuspect ≤ r.weight then .suspect else .keep) ∧
    (r.blocked = true → (r.state = .watch ∨ r.state = .suspect) →
      evaluate p loss r = if loss = true ∨ sparing = true ∨ p.tSuspect ≤ r.weight then .suspect else .keep) ∧
    (r.blocked = true → r.state = .spared → evaluate p loss r = .keep) ∧
    (r.state = .queued → evaluate p loss r = if loss = true ∧ r.urgent = false then .urge else .keep) ∧
    (r.state = .migrating → evaluate p loss r = if loss then .urge else .keep) ∧
    (r.state = .condemned → evaluate p loss r = .keep)) ∧
  ∀ (s : State) (r : Record),
    applyVerdict r .keep s = s ∧
    applyVerdict r .suspect s =
      { s with table := s.table.map fun x => if x.key = r.key then { x with state := .suspect, urgent := false } else x } ∧
    applyVerdict r (.enqueue true) s = serveQueue { s with
      table := s.table.map fun x => if x.key = r.key then { x with state := .queued, urgent := true } else x
      queue := ⟨(s.queue.urgent.filter fun k => k != r.key) ++ [r.key], s.queue.normal.filter fun k => k != r.key⟩ } ∧
    applyVerdict r (.enqueue false) s = serveQueue { s with
      table := s.table.map fun x => if x.key = r.key then { x with state := .queued, urgent := false } else x
      queue := ⟨s.queue.urgent.filter fun k => k != r.key, (s.queue.normal.filter fun k => k != r.key) ++ [r.key]⟩ } ∧
    (r.state = .queued → applyVerdict r .urge s = applyVerdict r (.enqueue true) s) ∧
    (r.state ≠ .queued → applyVerdict r .urge s =
      { s with table := s.table.map fun x => if x.key = r.key then { x with urgent := true } else x })

/-- R57, R62: the record that an event makes for a row without one, while a slot is free. R63, R46, R91: such an event with every
slot occupied and no record that may be evicted. R61, R64, R92: the event whole, in the lowest free slot or in the slot of the
record evicted: the record as scored, `r₁`, joins the table, and its evaluation is applied (EvaluationOutcomes). -/
def Obligations.EventWithoutRecord : Prop :=
  (∀ (s : State) (ev : ErrorEvent), lineRecord s ev.line = none → (∃ n : Fin 256, ∀ r ∈ s.table, r.slot ≠ n) →
    ∃ r' : Record, lineRecord (receiveEvent ev s) ev.line = some r' ∧
      r'.key = lineKey ev.line ∧ r'.origin = ev.origin ∧ r'.corrections = 1 ∧ r'.homeSpare = none ∧ r'.overflow = false ∧
      r'.pinned = false ∧ r'.blocked = false ∧ r'.persisted = false ∧ r'.persistWanted = false ∧
      (∀ r ∈ s.table, r.slot ≠ r'.slot) ∧ (∀ m : Fin 256, m < r'.slot → ∃ r ∈ s.table, r.slot = m) ∧
      (∀ c : Cell, ev.kind = .correction c →
        r'.signature = some ⟨c, 1⟩ ∧ r'.weight = min 4095 (increment s.params ev.origin) ∧ r'.poison = []) ∧
      (ev.kind = .uncorrectable → r'.signature = none ∧ r'.weight = 4095 ∧ r'.poison = [lineColumn ev.line]) ∧
      (receiveEvent ev s).table.map Record.key = s.table.map Record.key ++ [lineKey ev.line]) ∧
  (∀ (s : State) (l : LineAddr) (origin : Origin), lineRecord s l = none →
    (∀ n : Fin 256, ∃ r ∈ s.table, r.slot = n) →
    (∀ r ∈ s.table, r.state ≠ .watch ∨ r.pinned = true ∨ r.poison ≠ [] ∨ r.overflow = true) →
    (∀ c : Cell, origin = .hostRead ∨ origin = .maskedWrite →
      receiveEvent ⟨l, origin, .correction c⟩ s = { s with
        counters := { s.counters with
          hostCorrected := min (s.counters.hostCorrected + 1) 4294967295
          tableOverflow := min (s.counters.tableOverflow + 1) 4294967295 }
        attn := { s.attn with flags := s.attn.flags ||| BitVec.twoPow 10 3 } }) ∧
    (∀ c : Cell, origin = .patrol ∨ origin = .verify ∨ origin = .copy →
      receiveEvent ⟨l, origin, .correction c⟩ s = { s with
        counters := { s.counters with
          patrolCorrected := min (s.counters.patrolCorrected + 1) 4294967295
          tableOverflow := min (s.counters.tableOverflow + 1) 4294967295 }
        attn := { s.attn with flags := s.attn.flags ||| BitVec.twoPow 10 3 } }) ∧
    receiveEvent ⟨l, origin, .uncorrectable⟩ s = { s with
      counters := { s.counters with
        uncorrectable := min (s.counters.uncorrectable + 1) 4294967295
        tableOverflow := min (s.counters.tableOverflow + 1) 4294967295 }
      attn := { s.attn with flags := s.attn.flags ||| BitVec.twoPow 10 3 ||| BitVec.twoPow 10 0 } }) ∧
  (∀ (s : State) (ev : ErrorEvent) (n : Fin 256) (table : List Record) (r₁ : Record), lineRecord s ev.line = none →
    (((∀ r ∈ s.table, r.slot ≠ n) ∧ (∀ m : Fin 256, m < n → ∃ r ∈ s.table, r.slot = m) ∧ table = s.table) ∨
      ∃ v : Record, (∀ m : Fin 256, ∃ r ∈ s.table, r.slot = m) ∧ victim s.table = some v ∧ n = v.slot ∧
        table = s.table.filter fun r => r.slot != v.slot) →
    (∀ c : Cell, ev.kind = .correction c →
      r₁ = {
        slot := n, key := lineKey ev.line, state := .watch, weight := min 4095 (increment s.params ev.origin)
        corrections := 1, signature := some ⟨c, 1⟩, homeSpare := none, destSpare := none, migration := none, urgent := false
        poison := [], overflow := false, pinned := false, blocked := false, persisted := false, persistWanted := false
        origin := ev.origin } →
      receiveEvent ev s = applyVerdict r₁ (evaluate s.params false r₁) { countEvent ev s with table := table ++ [r₁] }) ∧
    (ev.kind = .uncorrectable →
      r₁ = {
        slot := n, key := lineKey ev.line, state := .watch, weight := 4095, corrections := 1, signature := none
        homeSpare := none, destSpare := none, migration := none, urgent := false, poison := [lineColumn ev.line]
        overflow := false, pinned := false, blocked := false, persisted := false, persistWanted := false
        origin := ev.origin } →
      receiveEvent ev s = applyVerdict r₁ (evaluate s.params true r₁) { countEvent ev s with
        table := table ++ [r₁], attn := { s.attn with flags := s.attn.flags ||| BitVec.twoPow 10 0 } })) ∧
  (∀ (s : State) (l : LineAddr) (origin : Origin),
    (∀ c : Cell, origin = .hostRead ∨ origin = .maskedWrite →
      countEvent ⟨l, origin, .correction c⟩ s =
        { s with counters := { s.counters with hostCorrected := min (s.counters.hostCorrected + 1) 4294967295 } }) ∧
    (∀ c : Cell, origin = .patrol ∨ origin = .verify ∨ origin = .copy →
      countEvent ⟨l, origin, .correction c⟩ s =
        { s with counters := { s.counters with patrolCorrected := min (s.counters.patrolCorrected + 1) 4294967295 } }) ∧
    countEvent ⟨l, origin, .uncorrectable⟩ s =
      { s with counters := { s.counters with uncorrectable := min (s.counters.uncorrectable + 1) 4294967295 } })

/-- R64: the record that is evicted is the candidate of lowest weight, the earliest in the age list among equals; with no
candidate there is none. With every slot occupied, the new record takes the slot of the record evicted and the end of the age
list; with no candidate it is not created. -/
def Obligations.EvictionChoosesLowestOldest : Prop :=
  (∀ table : List Record,
    (victim table = none ↔
      ∀ r ∈ table, r.state ≠ .watch ∨ r.pinned = true ∨ r.poison ≠ [] ∨ r.overflow = true) ∧
    ∀ v : Record, victim table = some v →
      ∃ before after : List Record, table = before ++ v :: after ∧
        v.state = .watch ∧ v.pinned = false ∧ v.poison = [] ∧ v.overflow = false ∧
        (∀ r ∈ before, r.evictable = true → v.weight < r.weight) ∧
        (∀ r ∈ after, r.evictable = true → v.weight ≤ r.weight)) ∧
  (∀ (s : State) (k : RowKey) (origin : Origin), (∀ n : Fin 256, ∃ r ∈ s.table, r.slot = n) →
    (victim s.table = none → createRecord k origin id s = none) ∧
    ∀ v : Record, victim s.table = some v →
      createRecord k origin id s = some ({
          slot := v.slot, key := k, state := .watch, weight := 0, corrections := 0, signature := none, homeSpare := none
          destSpare := none, migration := none, urgent := false, poison := [], overflow := false, pinned := false
          blocked := false, persisted := false, persistWanted := false, origin := origin },
        { s with table := (s.table.filter fun r => r.slot != v.slot) ++ [{
          slot := v.slot, key := k, state := .watch, weight := 0, corrections := 0, signature := none, homeSpare := none
          destSpare := none, migration := none, urgent := false, poison := [], overflow := false, pinned := false
          blocked := false, persisted := false, persistWanted := false, origin := origin }] }))

/-- R96, R97: one record's decay, and that nothing of it but the weight, the state and the urgency of a record leaving SUSPECT
changes. R98 with R71: decay releases exactly the records that it leaves WATCH with weight 0, not pinned, with an empty poison
list and no overflow; among them none has a home spare. -/
def Obligations.DecayActsOnRecords : Prop :=
  (∀ (p : Params) (r : Record),
    (r.weight = 0 → (Record.decay p r).weight = 0) ∧
    (r.weight ≠ 0 → (Record.decay p r).weight = r.weight - max 1 (r.weight / 2 ^ p.decayShift)) ∧
    (r.state ≠ .suspect → (Record.decay p r).state = r.state) ∧
    (r.state = .suspect → p.tSuspect / 2 ≤ (Record.decay p r).weight → (Record.decay p r).state = .suspect) ∧
    (r.state = .suspect → (Record.decay p r).weight < p.tSuspect / 2 →
      (Record.decay p r).state = if r.homeSpare.isSome then .spared else .watch) ∧
    { Record.decay p r with weight := r.weight, state := r.state, urgent := r.urgent } = r) ∧
  (∀ s : State, TableLaw s → (∀ r ∈ s.table, HomeLaw r) →
    ∀ r ∈ s.table,
      ((∀ r' ∈ (decayAll s).table, r'.key ≠ r.key) ↔
        (Record.decay s.params r).state = .watch ∧ (Record.decay s.params r).weight = 0 ∧ r.pinned = false ∧
          r.poison = [] ∧ r.overflow = false) ∧
      ((∀ r' ∈ (decayAll s).table, r'.key ≠ r.key) → r.homeSpare = none))

/-! ### The gate, the patrol and the arbiter (spec/07, spec/08) -/

/-- R137, R138: HOLD_N and its timer. R135, R136: an occupancy report, and the expiry of the dwell timer. An event in a state where
the tables show none changes nothing (log 1, the model's choice). -/
def Obligations.GateFollowsPinAndOccupancy : Prop :=
  ((∀ s : State, s.hold.state = .idle →
    exec .holdNAssertion s = .next { s with hold := ⟨.inForce, some s.params.holdLimit⟩ } ∧
    exec .holdNDeassertion s = .next s ∧ exec .holdTimerExpiry s = .next s) ∧
  (∀ s : State, s.hold.state = .inForce →
    exec .holdNAssertion s = .next s ∧ exec .holdNDeassertion s = .next { s with hold := ⟨.idle, none⟩ } ∧
    exec .holdTimerExpiry s = .next { s with
      hold := ⟨.expired, none⟩
      counters := { s.counters with holdExpired := min (s.counters.holdExpired + 1) 4294967295 }
      attn := { s.attn with flags := s.attn.flags ||| BitVec.twoPow 10 6 } }) ∧
  (∀ s : State, s.hold.state = .expired →
    exec .holdNAssertion s = .next s ∧ exec .holdNDeassertion s = .next { s with hold := ⟨.idle, none⟩ } ∧
    exec .holdTimerExpiry s = .next s)) ∧
  ((∀ (p : Params) (q : Quiet) (n : Nat), p.quietThreshold < n → (q.report p n) = ⟨.notQuiet, none, n⟩) ∧
  (∀ (p : Params) (q : Quiet) (n : Nat), n ≤ p.quietThreshold →
    (q.state = .notQuiet → q.report p n = ⟨.settling, some p.dwell, n⟩) ∧
    (q.state ≠ .notQuiet → q.report p n = ⟨q.state, q.dwellTimer, n⟩)) ∧
  (∀ s : State, s.quiet.state = .settling →
    exec .dwellTimerExpiry s = .next { s with quiet := ⟨.quiet, none, s.quiet.lastOccupancy⟩ }) ∧
  (∀ s : State, s.quiet.state ≠ .settling → exec .dwellTimerExpiry s = .next s))

/-- R122, R123, R126: an expiry of the pace timer: its credit, and the row patrol that may begin. R126, R130: the beginning of row
patrols: each spends a credit, the row of a migration is skipped and the cursor advances, and while credits remain the next
begins in turn. -/
def Obligations.PaceTimerEarnsCredits : Prop :=
  (∀ (s : State) (i : Nat), s.patrol.paceTimer = some i →
    exec .paceTimerExpiry s = .next (beginRow (if s.patrol.credits < 64
      then { s with patrol := { s.patrol with credits := s.patrol.credits + 1 } }
      else { s with
        counters := { s.counters with patrolOverrun := min (s.counters.patrolOverrun + 1) 4294967295 }
        attn := { s.attn with flags := s.attn.flags ||| BitVec.twoPow 10 5 } }))) ∧
  (∀ s : State,
    ((s.phase = .loading ∨ s.params.bankMask = 0 ∨ s.patrol.current.isSome = true ∨ s.patrol.credits = 0) →
      beginRow s = s) ∧
    (∀ k : Nat, s.phase = .running → s.params.bankMask ≠ 0 → s.patrol.current = none → s.patrol.credits = k + 1 →
      ((∀ r : Record, lookup s (keyAt s.patrol.pos s.patrol.row) = some r → r.state ≠ .migrating) →
        beginRow s = { s with patrol := { s.patrol with credits := k, current := some 0 } }) ∧
      (∀ r : Record, lookup s (keyAt s.patrol.pos s.patrol.row) = some r → r.state = .migrating →
        beginRow s = beginRow (advanceCursor { s with patrol := { s.patrol with credits := k } })))) ∧
  ∀ (s : State) (i : Nat), s.patrol.paceTimer = some i →
    (s.patrol.credits < 64 → s.patrol.current.isSome = true →
      exec .paceTimerExpiry s = .next { s with patrol := { s.patrol with credits := s.patrol.credits + 1 } }) ∧
    (s.patrol.credits = 64 → s.patrol.current.isSome = true →
      exec .paceTimerExpiry s = .next { s with
        counters := { s.counters with patrolOverrun := min (s.counters.patrolOverrun + 1) 4294967295 }
        attn := { s.attn with flags := s.attn.flags ||| BitVec.twoPow 10 5 } }) ∧
    (s.patrol.current = none → s.phase = .running → s.params.bankMask ≠ 0 →
      (∀ r : Record, lookup s (keyAt s.patrol.pos s.patrol.row) = some r → r.state ≠ .migrating) →
      (s.patrol.credits < 64 →
        exec .paceTimerExpiry s = .next { s with patrol := { s.patrol with current := some 0 } }) ∧
      (s.patrol.credits = 64 →
        exec .paceTimerExpiry s = .next { s with
          patrol := { s.patrol with current := some 0, credits := 63 }
          counters := { s.counters with patrolOverrun := min (s.counters.patrolOverrun + 1) 4294967295 }
          attn := { s.attn with flags := s.attn.flags ||| BitVec.twoPow 10 5 } }))

/-- R121: the pace interval, and its least and greatest value for every period in range and every mask that is not empty. -/
def Obligations.PaceIntervalBounded : Prop :=
  ∀ p : Params,
    (p.bankMask = 0 → paceInterval p = none) ∧
    (p.bankMask ≠ 0 → 60 ≤ p.period → p.period ≤ 2880 →
      paceInterval p = some (p.period * 60000000 / (((List.finRange 32).countP fun b => p.bankMask.getLsbD b.val) * 65536)) ∧
      1716 ≤ p.period * 60000000 / (((List.finRange 32).countP fun b => p.bankMask.getLsbD b.val) * 65536) ∧
      p.period * 60000000 / (((List.finRange 32).countP fun b => p.bankMask.getLsbD b.val) * 65536) ≤ 2636718)

/-- R120, R124, R131: the position that the cursor advances to, and the pass completion at the wrap. -/
def Obligations.PatrolOrderVisitsIncluded : Prop :=
  (∀ (s : State) (q : BankPos), s.patrol.pos < q → s.params.bankMask.getLsbD q.val = true →
    (∀ b : BankPos, s.patrol.pos < b → b < q → s.params.bankMask.getLsbD b.val = false) →
    advanceCursor s = { s with patrol := { s.patrol with pos := q } }) ∧
  (∀ (s : State) (q : BankPos), (∀ b : BankPos, s.patrol.pos < b → s.params.bankMask.getLsbD b.val = false) →
    s.params.bankMask.getLsbD q.val = true → (∀ b : BankPos, b < q → s.params.bankMask.getLsbD b.val = false) →
    (∀ h : s.patrol.row.val + 1 < 65536,
      advanceCursor s = { s with patrol := { s.patrol with row := ⟨s.patrol.row.val + 1, h⟩, pos := q } }) ∧
    (s.patrol.row.val = 65535 →
      advanceCursor s = { s with
        patrol := { s.patrol with row := 0, pos := q, passNumber := s.patrol.passNumber + 1 }
        table := (s.table.map (Record.decay s.params)).filter fun r => !r.faded })) ∧
  (∀ s : State, s.params.bankMask = 0 → advanceCursor s = s)

/-- R128 to R130: the performance and the completion of a patrol line read: the event, then the writeback request; the read leaves
its line order and the slot is free. At line 127 the row patrol completes: the cursor advances, and with a credit left the next
begins (`beginRow`, of which PaceTimerEarnsCredits speaks); with no credit left none does. -/
def Obligations.PatrolLineRead : Prop :=
  ∀ (s : State) (l : LineAddr) (o : Op), s.slot = some (.patrol l) → o.kind = .patrol →
    (headOp s l = some o → o.stage = .waiting →
      exec .patrolLineReadPerform s = .next { s with
        ops := stagedOps s l (.reading (homePlace (lineRecord s l)) false s.stamps)
        stamps := s.stamps + 1 }) ∧
    (∀ (damage : StoredLine) (p : Place) (via : Bool) (n : Nat) (col : Column),
      completing s l = some o → o.stage = .reading p via n → s.patrol.current = some col →
      (((readLine s l p damage).outcome = .clean ∨ (readLine s l p damage).outcome = .mark) →
        (∀ h : col.val + 1 < 128, exec (.patrolLineReadComplete damage) s = .next { s with
          ops := s.ops.eraseP fun o => o.line == l
          slot := none
          patrol := { s.patrol with current := some ⟨col.val + 1, h⟩ } }) ∧
        (col = 127 → exec (.patrolLineReadComplete damage) s = .next (beginRow (advanceCursor { s with
          ops := s.ops.eraseP fun o => o.line == l
          slot := none
          patrol := { s.patrol with current := none } }))) ∧
        (col = 127 → s.patrol.credits = 0 →
          exec (.patrolLineReadComplete damage) s = .next (advanceCursor { s with
            ops := s.ops.eraseP fun o => o.line == l
            slot := none
            patrol := { s.patrol with current := none } }))) ∧
      (∀ c : Cell, (readLine s l p damage).outcome = .corrected → (readLine s l p damage).cell = some c →
        (∀ h : col.val + 1 < 128, ∃ u : State, exec (.patrolLineReadComplete damage) s = .next u ∧
          u.wbQueue = (requestWriteback l (.data (readLine s l p damage).data) o.overtaken s).wbQueue ∧
          u.counters.patrolCorrected = min (s.counters.patrolCorrected + 1) 4294967295 ∧
          u = { requestWriteback l (.data (readLine s l p damage).data) o.overtaken
              (receiveEvent ⟨l, .patrol, .correction c⟩ s) with
            ops := s.ops.eraseP fun o => o.line == l
            slot := none
            patrol := { s.patrol with current := some ⟨col.val + 1, h⟩ } }) ∧
        (col = 127 → exec (.patrolLineReadComplete damage) s = .next (beginRow (advanceCursor
          { requestWriteback l (.data (readLine s l p damage).data) o.overtaken
              (receiveEvent ⟨l, .patrol, .correction c⟩ s) with
            ops := s.ops.eraseP fun o => o.line == l
            slot := none
            patrol := { s.patrol with current := none } })))) ∧
      ((readLine s l p damage).outcome = .uncorrectable →
        (∀ h : col.val + 1 < 128, ∃ u : State, exec (.patrolLineReadComplete damage) s = .next u ∧
          u.wbQueue = (requestWriteback l .mark o.overtaken s).wbQueue ∧
          u.counters.uncorrectable = min (s.counters.uncorrectable + 1) 4294967295 ∧
          u = { requestWriteback l .mark o.overtaken (receiveEvent ⟨l, .patrol, .uncorrectable⟩ s) with
            ops := s.ops.eraseP fun o => o.line == l
            slot := none
            patrol := { s.patrol with current := some ⟨col.val + 1, h⟩ } }) ∧
        (col = 127 → exec (.patrolLineReadComplete damage) s = .next (beginRow (advanceCursor
          { requestWriteback l .mark o.overtaken (receiveEvent ⟨l, .patrol, .uncorrectable⟩ s) with
            ops := s.ops.eraseP fun o => o.line == l
            slot := none
            patrol := { s.patrol with current := none } })))))

/-- R107, R113, R127, R140, R152: the rank of each block's claim in the RUNNING part while the slot is free, the only states in
which a grant judges the claims: while it is held its holder makes no new claim (R140), and in LOADING no claim stands (R139).
R141, R142: the claim that the slot is awarded to is eligible, and of the highest rank among the eligible ones; with no eligible
claim there is no award. -/
def Obligations.GrantGoesToHighestRank : Prop :=
  ∀ s : State,
    (s.phase = .running → s.slot = none →
      (8 ≤ s.wbQueue.length → Claimant.writeback.rank s = some 1) ∧
      (1 ≤ s.wbQueue.length → s.wbQueue.length ≤ 7 → Claimant.writeback.rank s = some 4) ∧
      (s.wbQueue = [] → Claimant.writeback.rank s = none) ∧
      (∀ r : Record, migrating s = some r → s.engine.step = none →
        Claimant.migration.rank s = some (if r.urgent then 2 else 6)) ∧
      ((∀ r ∈ s.table, r.state ≠ .migrating) ∨ s.engine.step.isSome = true → Claimant.migration.rank s = none) ∧
      (∀ c : Column, s.patrol.current = some c →
        Claimant.patrol.rank s = some (if s.params.urgentThreshold ≤ s.patrol.credits then 3 else 7)) ∧
      (s.patrol.current = none → Claimant.patrol.rank s = none) ∧
      ((∃ l ∈ s.verifyQueue, MayVerify s l) → Claimant.verify.rank s = some 5) ∧
      ((∀ l ∈ s.verifyQueue, ¬ MayVerify s l) → Claimant.verify.rank s = none)) ∧
    (∀ k : Nat, eligible s k = true ↔ s.hold.state ≠ .inForce ∧ (k ≤ 3 ∨ s.quiet.state = .quiet)) ∧
    (∀ c : Claimant, award s = some c → ∃ k : Nat, c.rank s = some k ∧ eligible s k = true ∧
      ∀ (c' : Claimant) (k' : Nat), c'.rank s = some k' → eligible s k' = true → k ≤ k' ∧ (k' = k → c' = c)) ∧
    (award s = none ↔ ∀ (c : Claimant) (k : Nat), c.rank s = some k → eligible s k = false)

/-- R139, R108, R114, R128, R152: what a grant issues for each claimant, and where no grant is made. -/
def Obligations.GrantIssuesOperation : Prop :=
  (∀ s : State, (s.phase = .loading ∨ s.slot ≠ none ∨ award s = none) → exec .backgroundGrant s = .next s) ∧
  (∀ s : State, s.phase = .running → s.slot = none →
    (∀ (e : WbEntry) (rest : List WbEntry), award s = some .writeback → s.wbQueue = e :: rest →
      exec .backgroundGrant s = .next { s with
        wbQueue := rest
        slot := some (.writeback e.line)
        ops := s.ops ++ [⟨e.line, .writeback e.content, none, .waiting, none⟩] }) ∧
    (∀ l : LineAddr, award s = some .verify → nextVerify s = some l →
      exec .backgroundGrant s = .next { s with
        verifyQueue := s.verifyQueue.filter fun x => x != l
        slot := some (.verify l)
        ops := s.ops ++ [⟨l, .verify, none, .waiting, some false⟩] }) ∧
    (∀ c : Column, award s = some .patrol → s.patrol.current = some c →
      exec .backgroundGrant s = .next { s with
        slot := some (.patrol (lineOf (keyAt s.patrol.pos s.patrol.row) c))
        ops := s.ops ++ [⟨lineOf (keyAt s.patrol.pos s.patrol.row) c, .patrol, none, .waiting, some false⟩] }) ∧
    (∀ (r : Record) (d : SpareIdx) (m : MigSub), award s = some .migration → migrating s = some r →
      r.destSpare = some d → r.migration = some m →
      (m.phase = .copy → exec .backgroundGrant s = .next { s with
        slot := some .migration
        engine := { s.engine with step := some ⟨lineOf r.key (Fin.ofNat 128 m.copyCursor), d, .copyRead, false⟩ }
        ops := s.ops ++ [⟨lineOf r.key (Fin.ofNat 128 m.copyCursor), .copyRead, none, .waiting, some false⟩] }) ∧
      (m.phase = .check → exec .backgroundGrant s = .next { s with
        slot := some .migration
        engine := { s.engine with step := some ⟨lineOf r.key (Fin.ofNat 128 m.checkCursor), d, .checkRead, false⟩ }
        ops := s.ops ++ [⟨lineOf r.key (Fin.ofNat 128 m.checkCursor), .checkRead, none, .waiting, none⟩] })))

/-! ### The queues (spec/06) -/

/-- R104, R105, R111: a writeback request and a verify request, by the first case that holds. -/
def Obligations.QueueRequestsHandled : Prop :=
  (∀ (s : State) (l : LineAddr) (c : LineContent),
    requestWriteback l c true s =
      { s with counters := { s.counters with wbSuperseded := min (s.counters.wbSuperseded + 1) 4294967295 } } ∧
    (∀ (before after : List WbEntry) (c' : LineContent), s.wbQueue = before ++ ⟨l, c'⟩ :: after →
      (∀ e ∈ before, e.line ≠ l) →
      requestWriteback l c false s = { s with wbQueue := before ++ ⟨l, c⟩ :: after }) ∧
    ((∀ e ∈ s.wbQueue, e.line ≠ l) →
      (16 ≤ s.wbQueue.length → requestWriteback l c false s =
        { s with counters := { s.counters with wbDropped := min (s.counters.wbDropped + 1) 4294967295 } }) ∧
      (s.wbQueue.length < 16 → requestWriteback l c false s = { s with wbQueue := s.wbQueue ++ [⟨l, c⟩] }))) ∧
  (∀ (s : State) (l : LineAddr),
    (l ∈ s.verifyQueue → requestVerify l s = s) ∧
    (l ∉ s.verifyQueue → 8 ≤ s.verifyQueue.length → requestVerify l s =
      { s with counters := { s.counters with verifyDropped := min (s.counters.verifyDropped + 1) 4294967295 } }) ∧
    (l ∉ s.verifyQueue → s.verifyQueue.length < 8 →
      requestVerify l s = { s with verifyQueue := s.verifyQueue ++ [l] }))

/-- R108, R13, R157: the performance and the completion of a writeback. That it lands on every target at its completion, the media
as they were until then, is the model's choice (log 14). -/
def Obligations.WritebackPerformed : Prop :=
  ∀ (s : State) (l : LineAddr) (o : Op) (content : LineContent),
    s.slot = some (.writeback l) → o.kind = .writeback content →
    (headOp s l = some o → o.stage = .waiting →
      exec .writebackPerform s = .next { s with
        ops := stagedOps s l (.writing (writeTargets s l) content s.stamps)
        stamps := s.stamps + 1 }) ∧
    (∀ (targets : List Place) (written : LineContent) (n : Nat),
      completing s l = some o → o.stage = .writing targets written n →
      ∃ (m : Media) (marked : List Column),
        exec .writebackComplete s = .next { s with
          media := m, engine := { s.engine with marked := marked }, slot := none
          ops := s.ops.eraseP fun o => o.line == l } ∧
        Written s.media m l targets written ∧ MarkedFollows s l targets written marked)

/-- R113, R114, R115: the entry that is next is the oldest eligible one, and there is none only when no entry is eligible; the
performance of a verify read; its completion when it is not to be served again, the event, then the writeback request; and its
being served again from the home (DestinationReadServedAgain says the rest): it raises and requests nothing. -/
def Obligations.VerifyReadPerformed : Prop :=
  (∀ (s : State) (l : LineAddr), nextVerify s = some l →
    l ∈ s.verifyQueue ∧ (∀ e ∈ s.wbQueue, e.line ≠ l) ∧ s.slot ≠ some (.writeback l)) ∧
  (∀ (s : State) (l : LineAddr), nextVerify s = some l ↔
    ∃ before after : List LineAddr, s.verifyQueue = before ++ l :: after ∧ MayVerify s l ∧
      ∀ x ∈ before, ¬ MayVerify s x) ∧
  (∀ s : State, nextVerify s = none ↔ ∀ x ∈ s.verifyQueue, ¬ MayVerify s x) ∧
  ∀ (s : State) (l : LineAddr) (o : Op), s.slot = some (.verify l) → o.kind = .verify →
    (headOp s l = some o → o.stage = .waiting →
      exec .verifyReadPerform s = .next { s with
        ops := stagedOps s l (.reading (readTarget (lineRecord s l) (lineColumn l)).1
          (readTarget (lineRecord s l) (lineColumn l)).2 s.stamps)
        stamps := s.stamps + 1 }) ∧
    (∀ (damage : StoredLine) (p : Place) (n : Nat), completing s l = some o → o.stage = .reading p true n →
      mustReserve s l p true (readLine s l p damage) = true →
      ∃ (u : State) (place : Place), exec (.verifyReadComplete damage) s = .next u ∧
        headOp u l = some { o with stage := .rereading place s.stamps } ∧ place = homePlace (lineRecord s l) ∧
        u.linkOut = s.linkOut ∧ u.media = s.media ∧ u.wbQueue = s.wbQueue ∧ u.verifyQueue = s.verifyQueue ∧
        u.counters.patrolCorrected = s.counters.patrolCorrected ∧ u.counters.uncorrectable = s.counters.uncorrectable) ∧
    (∀ (damage : StoredLine) (p : Place), completing s l = some o →
      ((∃ n, o.stage = .rereading p n) ∨
        ∃ via n, o.stage = .reading p via n ∧ mustReserve s l p via (readLine s l p damage) = false) →
      (((readLine s l p damage).outcome = .clean ∨ (readLine s l p damage).outcome = .mark) →
        exec (.verifyReadComplete damage) s = .next { s with ops := s.ops.eraseP fun o => o.line == l, slot := none }) ∧
      (∀ c : Cell, (readLine s l p damage).outcome = .corrected → (readLine s l p damage).cell = some c →
        ∃ u : State, exec (.verifyReadComplete damage) s = .next u ∧
          u.wbQueue = (requestWriteback l (.data (readLine s l p damage).data) o.overtaken s).wbQueue ∧
          u.counters.patrolCorrected = min (s.counters.patrolCorrected + 1) 4294967295 ∧
          u = { requestWriteback l (.data (readLine s l p damage).data) o.overtaken
              (receiveEvent ⟨l, .verify, .correction c⟩ s) with
            ops := s.ops.eraseP fun o => o.line == l, slot := none }) ∧
      ((readLine s l p damage).outcome = .uncorrectable →
        ∃ u : State, exec (.verifyReadComplete damage) s = .next u ∧
          u.wbQueue = (requestWriteback l .mark o.overtaken s).wbQueue ∧
          u.counters.uncorrectable = min (s.counters.uncorrectable + 1) 4294967295 ∧
          u = { requestWriteback l .mark o.overtaken (receiveEvent ⟨l, .verify, .uncorrectable⟩ s) with
            ops := s.ops.eraseP fun o => o.line == l, slot := none }))

/-! ### Sparing and migration (spec/09) -/

/-- R149: the head of the queue is the oldest of the urgent section, or, with none there, the oldest of the rest. R146, R150, R151:
the engine is busy exactly while a record is MIGRATING; idle, it takes the head: the FREE spare of lowest index becomes its
destination, or, with no FREE spare in its bank, it is condemned and the next head is taken. -/
def Obligations.EngineTakesHead : Prop :=
  (∀ (k : RowKey) (urgent normal : List RowKey),
    MigQueue.takeHead ⟨k :: urgent, normal⟩ = some (k, ⟨urgent, normal⟩) ∧
    MigQueue.takeHead ⟨[], k :: normal⟩ = some (k, ⟨[], normal⟩) ∧ MigQueue.takeHead ⟨[], []⟩ = none) ∧
  (∀ s : State, (∀ r : Record, migrating s = some r → r ∈ s.table ∧ r.state = .migrating) ∧
    (migrating s = none ↔ ∀ r ∈ s.table, r.state ≠ .migrating) ∧ (s.queue = ⟨[], []⟩ → serveQueue s = s)) ∧
  ∀ (s : State) (k : RowKey) (rest : MigQueue), s.queue.takeHead = some (k, rest) →
    (∀ r : Record, migrating s = some r → serveQueue s = s) ∧
    (∀ d : SpareIdx, migrating s = none → spareState s.spares (keyPos k) d = .free →
      (∀ i : SpareIdx, i < d → spareState s.spares (keyPos k) i ≠ .free) →
      ∃ (m : Sparse SpareUse) (a : Attention), serveQueue s = { s with
          queue := rest, spares := m, attn := a, engine := { s.engine with marked := [] }
          table := s.table.map fun r => if r.key = k
            then { r with state := .migrating, destSpare := some d, migration := some ⟨.copy, 0, 0, 1⟩ } else r } ∧
        spareState m (keyPos k) d = .assigned ∧
        (∀ (p : BankPos) (i : SpareIdx), (p, i) ≠ (keyPos k, d) → spareState m p i = spareState s.spares p i) ∧
        (a = if freeCount m (keyPos k) ≤ 2 then s.attn.raise .sparesLow else s.attn)) ∧
    (migrating s = none → (∀ i : SpareIdx, spareState s.spares (keyPos k) i ≠ .free) →
      serveQueue s = serveQueue { s with
        queue := rest, attn := s.attn.raise .condemned
        table := s.table.map fun r => if r.key = k
          then { r with state := .condemned, destSpare := none, migration := none, urgent := false } else r })

/-- R14, R152 to R154: the parts of a copy step of the migration in progress that no host write meets. R160: the completion of the
copy read or the copy write of an ended attempt, which moves no cursor and no marked-column set and frees the slot. The copy
write has no command for its issue in the table: the model issues it with the read's completion (log 15). That it lands at its
completion, the media as they were until then, is the model's choice (log 14). -/
def Obligations.CopyStepPerformed : Prop :=
  ∀ (s : State) (st : MigStep) (o : Op), s.engine.step = some st →
    (headOp s st.line = some o → o.kind = .copyRead → o.stage = .waiting →
      exec .copyReadPerform s = .next { s with
        ops := stagedOps s st.line (.reading (homePlace (lineRecord s st.line)) false s.stamps)
        stamps := s.stamps + 1 }) ∧
    (∀ (damage : StoredLine) (p : Place) (via : Bool) (n : Nat), st.leftover = false →
      completing s st.line = some o → o.kind = .copyRead → o.stage = .reading p via n →
      writeStands { s with ops := s.ops.eraseP fun o => o.line == st.line } st.line = false →
      (∀ content : LineContent,
        ((readLine s st.line p damage).outcome = .clean ∧ content = .data (readLine s st.line p damage).data ∨
          (readLine s st.line p damage).outcome = .mark ∧ content = .mark) →
        exec (.copyReadComplete damage) s = .next { s with
          ops := (s.ops.eraseP fun o => o.line == st.line) ++
            [⟨st.line, .copyWrite, none, .writing [.spare st.dest] content s.stamps, none⟩]
          stamps := s.stamps + 1
          engine := { s.engine with step := some { st with stage := .copyWrite } } }) ∧
      (∀ (r : Record) (c : Cell), lineRecord s st.line = some r → r.state = .migrating →
        (readLine s st.line p damage).outcome = .corrected → (readLine s st.line p damage).cell = some c →
        exec (.copyReadComplete damage) s = .next { receiveEvent ⟨st.line, .copy, .correction c⟩ s with
          ops := (s.ops.eraseP fun o => o.line == st.line) ++ [⟨st.line, .copyWrite, none,
            .writing [.spare st.dest] (.data (readLine s st.line p damage).data) s.stamps, none⟩]
          stamps := s.stamps + 1
          engine := { s.engine with step := some { st with stage := .copyWrite } } }) ∧
      (∀ r : Record, lineRecord s st.line = some r → r.state = .migrating →
        (readLine s st.line p damage).outcome = .uncorrectable →
        ∃ u : State, exec (.copyReadComplete damage) s = .next u ∧
          u.wbQueue = (requestWriteback st.line .mark o.overtaken s).wbQueue ∧
          u.counters.uncorrectable = min (s.counters.uncorrectable + 1) 4294967295 ∧
          u = { requestWriteback st.line .mark o.overtaken (receiveEvent ⟨st.line, .copy, .uncorrectable⟩ s) with
            ops := (s.ops.eraseP fun o => o.line == st.line) ++
              [⟨st.line, .copyWrite, none, .writing [.spare st.dest] .mark s.stamps, none⟩]
            stamps := s.stamps + 1
            engine := { s.engine with step := some { st with stage := .copyWrite } } })) ∧
    (∀ (damage : StoredLine) (p : Place) (via : Bool) (n : Nat), st.leftover = true →
      completing s st.line = some o → o.kind = .copyRead → o.stage = .reading p via n →
      (((readLine s st.line p damage).outcome = .clean ∨ (readLine s st.line p damage).outcome = .mark) →
        exec (.copyReadComplete damage) s = .next { s with
          ops := s.ops.eraseP fun o => o.line == st.line
          slot := none, engine := { s.engine with step := none } }) ∧
      (∀ c : Cell, (readLine s st.line p damage).outcome = .corrected → (readLine s st.line p damage).cell = some c →
        exec (.copyReadComplete damage) s = .next { receiveEvent ⟨st.line, .copy, .correction c⟩ s with
          ops := s.ops.eraseP fun o => o.line == st.line
          slot := none
          engine := { (receiveEvent ⟨st.line, .copy, .correction c⟩ s).engine with step := none } }) ∧
      ((readLine s st.line p damage).outcome = .uncorrectable →
        exec (.copyReadComplete damage) s = .next
          { requestWriteback st.line .mark o.overtaken (receiveEvent ⟨st.line, .copy, .uncorrectable⟩ s) with
            ops := s.ops.eraseP fun o => o.line == st.line
            slot := none
            engine := { (receiveEvent ⟨st.line, .copy, .uncorrectable⟩ s).engine with step := none } })) ∧
    (∀ (targets : List Place) (content : LineContent) (n : Nat), st.leftover = true →
      completing s st.line = some o → o.kind = .copyWrite → o.stage = .writing targets content n →
      ∃ m : Media, exec .copyWriteComplete s = .next { s with
          ops := s.ops.eraseP fun o => o.line == st.line
          slot := none, media := m, engine := { s.engine with step := none } } ∧
        Written s.media m st.line targets content) ∧
    (∀ (content : LineContent) (n : Nat) (r : Record) (g : MigSub), st.leftover = false →
      completing s st.line = some o → o.kind = .copyWrite → o.stage = .writing [.spare st.dest] content n →
      lineRecord s st.line = some r → r.state = .migrating → r.destSpare = some st.dest → r.migration = some g →
      g.copyCursor < 128 →
      ∃ (m : Media) (marked : List Column), exec .copyWriteComplete s = .next { s with
          ops := s.ops.eraseP fun o => o.line == st.line
          slot := none, media := m, engine := ⟨marked, none⟩, table := columnEnded s st.line } ∧
        Written s.media m st.line [.spare st.dest] content ∧
        ∀ c : Column,
          (content = .mark → (c ∈ marked ↔ c = lineColumn st.line ∨ c ∈ s.engine.marked)) ∧
          (content ≠ .mark → (c ∈ marked ↔ c ≠ lineColumn st.line ∧ c ∈ s.engine.marked)))

/-- R155, R156: a host write that stands on the line when the copy read completes cancels the copy write, whatever the copy read
found; the column ends at the completion of the media writes of the host write, a WR or an MWR, an orphan or not; a cancelling
MWR that ends without a write, from the poison list or from its read half, leaves the column to the next host write of the line
or, when none stands, lets the copy write be issued. That a write lands at its completion is the model's choice (log 14), and so
is the issue of the copy write within the same command (log 15). -/
def Obligations.HostWriteCancelsCopy : Prop :=
  (∀ (s : State) (l : LineAddr), writeStands s l = true ↔
    ∃ o ∈ s.ops, o.line = l ∧ ((∃ d, o.kind = .wr d) ∨ ∃ d e, o.kind = .mwr d e)) ∧
  (∀ (s : State) (st : MigStep) (o : Op) (damage : StoredLine) (p : Place) (via : Bool) (n : Nat),
    s.engine.step = some st → st.leftover = false → completing s st.line = some o → o.kind = .copyRead →
    o.stage = .reading p via n →
    writeStands { s with ops := s.ops.eraseP fun o => o.line == st.line } st.line = true →
    (∀ content : LineContent,
      ((readLine s st.line p damage).outcome = .clean ∧ content = .data (readLine s st.line p damage).data ∨
        (readLine s st.line p damage).outcome = .mark ∧ content = .mark) →
      exec (.copyReadComplete damage) s = .next { s with
        ops := s.ops.eraseP fun o => o.line == st.line
        engine := { s.engine with step := some { st with stage := .awaitHost content } } }) ∧
    (∀ (r : Record) (c : Cell), lineRecord s st.line = some r → r.state = .migrating →
      (readLine s st.line p damage).outcome = .corrected → (readLine s st.line p damage).cell = some c →
      exec (.copyReadComplete damage) s = .next { receiveEvent ⟨st.line, .copy, .correction c⟩ s with
        ops := s.ops.eraseP fun o => o.line == st.line
        engine := { s.engine with
          step := some { st with stage := .awaitHost (.data (readLine s st.line p damage).data) } } }) ∧
    (∀ r : Record, lineRecord s st.line = some r → r.state = .migrating →
      (readLine s st.line p damage).outcome = .uncorrectable →
      exec (.copyReadComplete damage) s = .next
        { requestWriteback st.line .mark o.overtaken (receiveEvent ⟨st.line, .copy, .uncorrectable⟩ s) with
          ops := s.ops.eraseP fun o => o.line == st.line
          engine := { s.engine with step := some { st with stage := .awaitHost .mark } } })) ∧
  (∀ (s : State) (l : LineAddr) (st : MigStep) (found content : LineContent) (o : Op) (targets : List Place) (n : Nat)
    (c : Instr),
    s.engine.step = some st → st.leftover = false → st.line = l → st.stage = .awaitHost found →
    completing s l = some o → o.stage = .writing targets content n →
    ((∃ d, o.kind = .wr d ∧ c = .wrWriteComplete l) ∨ (∃ d e, o.kind = .mwr d e ∧ c = .mwrWriteHalfComplete l)) →
    ∃ (m : Media) (marked : List Column),
      exec c s = .next (ended l o.tag (fun t => .wret t .done) { s with
        slot := none, media := m, engine := ⟨marked, none⟩, table := columnEnded s l }) ∧
      Written s.media m l targets content ∧ MarkedFollows s l targets content marked) ∧
  (∀ (s : State) (l : LineAddr) (st : MigStep) (found : LineContent) (o : Op) (t : Tag) (d : LineData) (e : BitVec 64),
    s.engine.step = some st → st.leftover = false → st.line = l → st.stage = .awaitHost found →
    headOp s l = some o → o.kind = .mwr d e → o.tag = some t → o.stage = .waiting →
    listsColumn (lineRecord s l) (lineColumn l) = true →
    (writeStands { s with ops := s.ops.eraseP fun o => o.line == l } l = true →
      exec (.mwrReadHalfIssue l) s = .next (returned l (.wret t .poisonKept) s)) ∧
    (writeStands { s with ops := s.ops.eraseP fun o => o.line == l } l = false →
      exec (.mwrReadHalfIssue l) s = .next { returned l (.wret t .poisonKept) s with
        ops := (s.ops.eraseP fun o => o.line == l) ++
          [⟨l, .copyWrite, none, .writing [.spare st.dest] found s.stamps, none⟩]
        stamps := s.stamps + 1
        engine := { s.engine with step := some { st with stage := .copyWrite } } })) ∧
  (∀ (s u : State) (l : LineAddr) (damage : StoredLine) (st : MigStep) (found : LineContent) (o : Op) (d : LineData)
    (e : BitVec 64) (p : Place),
    s.engine.step = some st → st.leftover = false → st.line = l → st.stage = .awaitHost found →
    completing s l = some o → o.kind = .mwr d e →
    ((∃ n, o.stage = .rereading p n) ∨
      ∃ via n, o.stage = .reading p via n ∧ mustReserve s l p via (readLine s l p damage) = false) →
    ((readLine s l p damage).outcome = .mark ∧ u = ended l o.tag (fun t => .wret t .poisonKept) s ∨
      (readLine s l p damage).outcome = .uncorrectable ∧ u = ended l o.tag (fun t => .wret t .poisonKept)
        (requestWriteback l .mark o.overtaken (receiveEvent ⟨l, .maskedWrite, .uncorrectable⟩ s))) →
    (writeStands u l = true → exec (.mwrReadHalfComplete l damage) s = .next u) ∧
    (writeStands u l = false → exec (.mwrReadHalfComplete l damage) s = .next { u with
      ops := u.ops ++ [⟨l, .copyWrite, none, .writing [.spare st.dest] found s.stamps, none⟩]
      stamps := s.stamps + 1
      engine := { u.engine with step := some { st with stage := .copyWrite } } })) ∧
  (∀ (u : State) (l : LineAddr) (st : MigStep) (found : LineContent),
    u.engine.step = some st → st.leftover = false → st.line = l → st.stage = .awaitHost found →
    (writeStands u l = true → hostWriteGivenUp l u = u) ∧
    (writeStands u l = false → hostWriteGivenUp l u = { u with
      ops := u.ops ++ [⟨l, .copyWrite, none, .writing [.spare st.dest] found u.stamps, none⟩]
      stamps := u.stamps + 1
      engine := { u.engine with step := some { st with stage := .copyWrite } } }))

/-- R152, R157, R160, R162: the performance of a check read, a pass short of the last column, the last pass, and a check read
of an ended attempt. At the last pass persist wanted follows the parameter auto-persist; the engine then takes the next head
(`serveQueue`, of which EngineTakesHead speaks), and an idle persist engine the work it finds (`startPersist`, of which
ProgramCompletes speaks), the new repair among it (R172). Each completion leaves the read's line order, ends the step and frees the slot. -/
def Obligations.CheckStepPerformed : Prop :=
  ∀ (s : State) (st : MigStep) (o : Op), s.engine.step = some st → o.kind = .checkRead →
    (headOp s st.line = some o → o.stage = .waiting →
      exec .checkReadPerform s = .next { s with
        ops := stagedOps s st.line (.reading (.spare st.dest) true s.stamps)
        stamps := s.stamps + 1 }) ∧
    ∀ (damage : StoredLine) (p : Place) (via : Bool) (n : Nat), completing s st.line = some o →
      o.stage = .reading p via n →
      (st.leftover = true → exec (.checkReadComplete damage) s = .next { s with
        ops := s.ops.eraseP fun o => o.line == st.line
        slot := none, engine := { s.engine with step := none } }) ∧
      ∀ (r : Record) (g : MigSub), st.leftover = false → lineRecord s st.line = some r → r.migration = some g →
        ((readLine s st.line p damage).outcome = .clean ∨ (readLine s st.line p damage).outcome = .mark ∨
          (readLine s st.line p damage).outcome = .uncorrectable ∧ lineColumn st.line ∈ s.engine.marked) →
        (g.checkCursor + 1 < 128 →
          exec (.checkReadComplete damage) s = .next { s with
            ops := s.ops.eraseP fun o => o.line == st.line
            slot := none, engine := { s.engine with step := none }
            table := s.table.map fun r' => if r'.key = r.key
              then { r' with migration := some { g with checkCursor := g.checkCursor + 1 } } else r' }) ∧
        (g.checkCursor = 127 →
          ∃ u : State, exec (.checkReadComplete damage) s = .next u ∧
            (∃ r' : Record, lineRecord u st.line = some r' ∧ r'.homeSpare = some st.dest ∧ r'.weight = 0 ∧
              r'.signature = none ∧ r'.persisted = false ∧ r'.corrections = r.corrections ∧ r'.poison = r.poison ∧
              r'.overflow = r.overflow ∧ r'.pinned = r.pinned ∧
              (r.key ∉ s.queue.urgent ++ s.queue.normal →
                r'.state = .spared ∧ r'.destSpare = none ∧ r'.migration = none ∧ r'.urgent = false)) ∧
            (∀ h : SpareIdx, r.homeSpare = some h → spareState u.spares (keyPos r.key) h = .burned ∧
              u.counters.sparesBurned = min (s.counters.sparesBurned + 1) 4294967295) ∧
            (r.homeSpare = none → u.counters.sparesBurned = s.counters.sparesBurned) ∧
            u.counters.migrationsDone = min (s.counters.migrationsDone + 1) 4294967295 ∧
            u.attn.isSet .spareDone = true ∧
            u = { s with
              ops := s.ops.eraseP fun o => o.line == st.line
              slot := none, engine := ⟨[], none⟩, table := u.table, spares := u.spares, queue := u.queue
              counters := u.counters, attn := u.attn, persist := u.persist } ∧
            (∃ (m : Sparse SpareUse) (base : State), base = { s with
                ops := s.ops.eraseP fun o => o.line == st.line
                slot := none, engine := ⟨[], none⟩, spares := m
                table := s.table.map fun x => if x.key = r.key
                  then { x with
                    state := .spared, homeSpare := some st.dest, destSpare := none, migration := none, urgent := false
                    weight := 0, signature := none, persisted := false, persistWanted := s.params.autoPersist }
                  else x
                counters := { s.counters with
                  sparesBurned := if r.homeSpare.isSome then min (s.counters.sparesBurned + 1) 4294967295
                    else s.counters.sparesBurned
                  migrationsDone := min (s.counters.migrationsDone + 1) 4294967295 }
                attn := { s.attn with flags := s.attn.flags ||| BitVec.twoPow 10 1 } } ∧
              (r.homeSpare = none → m = s.spares) ∧
              (∀ h : SpareIdx, r.homeSpare = some h → spareState m (keyPos r.key) h = .burned ∧
                ∀ (p : BankPos) (i : SpareIdx), (p, i) ≠ (keyPos r.key, h) → spareState m p i = spareState s.spares p i) ∧
              u = startPersist (serveQueue base) ∧
              (s.queue = ⟨[], []⟩ →
                u.queue = s.queue ∧
                ((s.phase = .loading ∨ s.persist.program.isSome = true) → u = base) ∧
                (s.phase = .running → s.persist.program = none → WorkTakenUp base u))) ∧
            (∀ r' : Record, lineRecord u st.line = some r' →
              (s.phase = .loading ∨ s.persist.program.isSome = true ∨ ∃ n : Fin 64, s.store[n] = .empty) →
              r'.persistWanted = s.params.autoPersist))

/-- R157, R159, R171: a check read that fails its column ends the attempt: the destination is BURNED, its bad-spare item is handed to
the Repair Store, and a third attempt's record, or one whose bank has no FREE spare, is condemned on its home; otherwise a new
attempt begins on the FREE spare of lowest index. -/
def Obligations.FailedAttemptRetriesOrCondemns : Prop :=
  ∀ (s : State) (st : MigStep) (o : Op) (damage : StoredLine) (p : Place) (via : Bool) (n : Nat) (r : Record) (g : MigSub),
    s.engine.step = some st → st.leftover = false → completing s st.line = some o → o.kind = .checkRead →
    o.stage = .reading p via n → lineRecord s st.line = some r → r.migration = some g → migrating s = some r →
    ((readLine s st.line p damage).outcome = .corrected ∨
      (readLine s st.line p damage).outcome = .uncorrectable ∧ lineColumn st.line ∉ s.engine.marked) →
    ∃ u : State, exec (.checkReadComplete damage) s = .next u ∧
      spareState u.spares (keyPos r.key) st.dest = .burned ∧
      u.counters.sparesBurned = min (s.counters.sparesBurned + 1) 4294967295 ∧
      AttemptFailed s u r g st.dest ∧
      u = { s with
        ops := s.ops.eraseP fun o => o.line == st.line
        slot := none, engine := ⟨[], none⟩, table := u.table, spares := u.spares, queue := u.queue
        counters := u.counters, attn := u.attn, persist := u.persist } ∧
      (∀ d : SpareIdx, g.attempt < 3 → d ≠ st.dest → spareState s.spares (keyPos r.key) d = .free →
        (∀ i : SpareIdx, i < d → i ≠ st.dest → spareState s.spares (keyPos r.key) i ≠ .free) →
        spareState u.spares (keyPos r.key) d = .assigned ∧ u.queue = s.queue ∧
        ∃ r' : Record, lineRecord u st.line = some r' ∧ r'.state = .migrating ∧ r'.destSpare = some d ∧
          r'.migration = some ⟨.copy, 0, 0, g.attempt + 1⟩ ∧ r'.urgent = r.urgent ∧ r'.homeSpare = r.homeSpare) ∧
      ((3 ≤ g.attempt ∨ ∀ i : SpareIdx, i ≠ st.dest → spareState s.spares (keyPos r.key) i ≠ .free) →
        r.key ∉ s.queue.urgent ++ s.queue.normal →
        u.attn.isSet .condemned = true ∧
        ∃ r' : Record, lineRecord u st.line = some r' ∧ r'.state = .condemned ∧ r'.destSpare = none ∧
          r'.migration = none ∧ r'.urgent = false ∧ r'.homeSpare = r.homeSpare ∧ r'.weight = r.weight)

/-! ### Reset and the repair store (spec/10) -/

/-- R168 and the reset rules of every chapter (R31, R80, R118, R133, R134, R139, R145, R166, R188, R190, R193, R195): what
POWER_ON_RESET leaves, State.reset with its values written out. HOLD_N is sampled (R137), a program in flight leaves its
slot BURNED (R176). R9: after a loss of power every line holds a free value (log 9); RESET_N without loss of power leaves every
line as it was, but for the lines that a media write in flight was being made to, each bit of which is the one it held or one
that such a write was storing. The frames sent and the queue of commands are the model's own (log 16, log 22). -/
def Obligations.ResetLeavesVolatileStateFresh : Prop :=
  (State.reset.phase = .loading ∧ State.reset.loadNext = 0 ∧ State.reset.link = ⟨.down, false, false⟩ ∧
    State.reset.ops = [] ∧ State.reset.table = [] ∧ State.reset.wbQueue = [] ∧ State.reset.verifyQueue = [] ∧
    State.reset.patrol = ⟨0, 0, 0, 0, none, none⟩ ∧ State.reset.quiet = ⟨.settling, some 4, 0⟩ ∧ State.reset.slot = none ∧
    (∀ (p : BankPos) (i : SpareIdx), spareState State.reset.spares p i = .free) ∧ State.reset.queue = ⟨[], []⟩ ∧
    State.reset.engine = ⟨[], none⟩ ∧ State.reset.persist = ⟨[], none⟩ ∧
    allParams.map State.reset.params.get = [64, 32, 256, 256, 1024, 3, 3, 720, 4294967295, 32, 2, 4, 50, 1] ∧
    State.reset.counters.inOrder = List.replicate 12 0 ∧ State.reset.attn.flags = 0 ∧
    (∀ i : Nat, i < 10 → State.reset.attn.enables.getLsbD i = true) ∧ State.reset.port.held = none ∧
    State.reset.port.awaiting = none ∧ State.reset.port.restart = false) ∧
  (∀ (s : State) (powerLost asserted : Bool),
    ∃ (store : Vector StoreSlot 64) (m : Media),
      exec (.powerOnReset powerLost asserted) s = .next { State.reset with
        hold := (if asserted then ⟨.inForce, some 50⟩ else ⟨.idle, none⟩)
        store := store, media := m, linkOut := s.linkOut, pending := s.pending } ∧
      (∀ n : Fin 64, (∀ p : Program, s.persist.program = some p → p.slot ≠ n) → store[n] = s.store[n]) ∧
      (∀ p : Program, s.persist.program = some p → store[p.slot] = .burned)) ∧
  (∀ (s u : State) (asserted : Bool), exec (.powerOnReset true asserted) s = .next u →
    ∀ n : Nat, u.media.stored n = Config.powerOnLine (s.media.powerCycles + 1) n) ∧
  (∀ (s u : State) (asserted : Bool), exec (.powerOnReset false asserted) s = .next u →
    (∀ n : Nat, (∀ o ∈ s.ops, n ∉ o.physLines) → u.media.stored n = s.media.stored n) ∧
    (∀ n : Nat,
      (∀ (o : Op) (targets : List Place) (content : LineContent) (stamp : Nat), o ∈ s.ops →
        o.stage = .writing targets content stamp → ∀ p ∈ targets, physLine o.line p ≠ n) →
      u.media.stored n = s.media.stored n) ∧
    (∀ n i : Nat, (u.media.stored n).getLsbD i = (s.media.stored n).getLsbD i ∨
      ∃ (o : Op) (targets : List Place) (content : LineContent) (stamp : Nat), o ∈ s.ops ∧
        headOp s o.line = some o ∧ o.stage = .writing targets content stamp ∧ (∃ p ∈ targets, physLine o.line p = n) ∧
        (u.media.stored n).getLsbD i = content.stored.getLsbD i) ∧
    (∀ (o : Op) (p : Place) (content : LineContent) (stamp : Nat), s.ops = [o] → o.stage = .writing [p] content stamp →
      ∀ i : Nat, (u.media.stored (physLine o.line p)).getLsbD i = content.stored.getLsbD i ∨
        (u.media.stored (physLine o.line p)).getLsbD i = (s.media.stored (physLine o.line p)).getLsbD i))

/-- R169, R170, R148: the processing of the next VALID slot; SPARES_LOW is set exactly when an installation on a FREE spare, or the
burning of a FREE spare, leaves the bank's FREE count at 2 or below. -/
def Obligations.LoadProcessesSlots : Prop :=
  (∀ (s : State) (n : Fin 64) (k : RowKey) (i : SpareIdx), s.phase = .loading → s.loadNext ≤ n.val →
    s.store[n] = .valid (.repair k i) →
    (∀ m : Fin 64, s.loadNext ≤ m.val → m < n → s.store[m] = .empty ∨ s.store[m] = .burned) →
    ((spareState s.spares (keyPos k) i = .burned ∨
        (∃ r ∈ s.table, r.key ≠ k ∧ keyPos r.key = keyPos k ∧ r.homeSpare = some i) ∨
        (∃ r : Record, lookup s k = some r ∧ r.homeSpare = some i)) →
      exec .loadRepairSlot s = .next { s with loadNext := n.val + 1 }) ∧
    (spareState s.spares (keyPos k) i = .free →
      (∀ r ∈ s.table, keyPos r.key = keyPos k → r.homeSpare ≠ some i) →
      (∀ (r : Record) (h : SpareIdx), lookup s k = some r → r.homeSpare = some h →
        ∃ u : State, exec .loadRepairSlot s = .next u ∧ u.loadNext = n.val + 1 ∧
          spareState u.spares (keyPos k) h = .burned ∧ spareState u.spares (keyPos k) i = .assigned ∧
          (∀ (p : BankPos) (j : SpareIdx), (p, j) ≠ (keyPos k, h) → (p, j) ≠ (keyPos k, i) →
            spareState u.spares p j = spareState s.spares p j) ∧
          u.attn = (if freeCount u.spares (keyPos k) ≤ 2
            then { s.attn with flags := s.attn.flags ||| BitVec.twoPow 10 4 } else s.attn) ∧
          u.table = (s.table.map fun r => if r.key = k then { r with homeSpare := some i } else r) ∧
          u = { s with loadNext := u.loadNext, spares := u.spares, table := u.table, attn := u.attn }) ∧
      (∀ slot : Fin 256, lookup s k = none → (∀ r ∈ s.table, r.slot ≠ slot) →
        (∀ m : Fin 256, m < slot → ∃ r ∈ s.table, r.slot = m) →
        ∃ u : State, exec .loadRepairSlot s = .next u ∧ u.loadNext = n.val + 1 ∧
          spareState u.spares (keyPos k) i = .assigned ∧
          (∀ (p : BankPos) (j : SpareIdx), (p, j) ≠ (keyPos k, i) → spareState u.spares p j = spareState s.spares p j) ∧
          u.attn = (if freeCount u.spares (keyPos k) ≤ 2
            then { s.attn with flags := s.attn.flags ||| BitVec.twoPow 10 4 } else s.attn) ∧
          u = { s with loadNext := u.loadNext, spares := u.spares, table := u.table, attn := u.attn } ∧
          u.table = s.table ++ [{
            slot := slot, key := k, state := .spared, weight := 0, corrections := 0, signature := none
            homeSpare := some i, destSpare := none, migration := none, urgent := false, poison := [], overflow := false
            pinned := false, blocked := false, persisted := true, persistWanted := false, origin := .store }]))) ∧
  (∀ (s : State) (n : Fin 64) (b : SpareName), s.phase = .loading → s.loadNext ≤ n.val →
    s.store[n] = .valid (.badSpare b) →
    (∀ m : Fin 64, s.loadNext ≤ m.val → m < n → s.store[m] = .empty ∨ s.store[m] = .burned) →
    (((∃ r ∈ s.table, keyPos r.key = b.pos ∧ r.homeSpare = some b.idx) ∨ spareState s.spares b.pos b.idx = .burned) →
      exec .loadBadSpareSlot s = .next { s with loadNext := n.val + 1 }) ∧
    ((∀ r ∈ s.table, keyPos r.key = b.pos → r.homeSpare ≠ some b.idx) → spareState s.spares b.pos b.idx = .free →
      ∃ u : State, exec .loadBadSpareSlot s = .next u ∧ u.loadNext = n.val + 1 ∧
        spareState u.spares b.pos b.idx = .burned ∧
        u = { s with loadNext := u.loadNext, spares := u.spares, attn := u.attn } ∧
        (freeCount u.spares b.pos ≤ 2 → u.attn.isSet .sparesLow = true) ∧
        (∀ (p : BankPos) (j : SpareIdx), (p, j) ≠ (b.pos, b.idx) → spareState u.spares p j = spareState s.spares p j) ∧
        u.attn = (if freeCount u.spares b.pos ≤ 2
          then { s.attn with flags := s.attn.flags ||| BitVec.twoPow 10 4 } else s.attn)))

/-- R168, R122, R33: the load completion, with no VALID slot left, no credit and no persist work; LoadLaw gives the last two, and
every step keeps it (LoadingStaysIdle). -/
def Obligations.LoadCompletesIntoRunning : Prop :=
  ∀ s : State, s.phase = .loading →
    (∀ m : Fin 64, s.loadNext ≤ m.val → s.store[m] = .empty ∨ s.store[m] = .burned) →
    s.patrol.credits = 0 → s.persist.badSpares = [] → (∀ r ∈ s.table, r.persistWanted = false) →
    exec .loadCompletion s = .next { s with
      phase := .running
      loadNext := 64
      port := { s.port with restart := true }
      patrol := { s.patrol with paceTimer := paceInterval s.params }
      link := (if s.link.completionPending then ⟨.up, false, false⟩ else s.link)
      linkOut := (if s.link.completionPending then s.linkOut ++ [.ready] else s.linkOut) }

/-- R172 to R175: the completion of a program whose sequence leaves the engine no other work, a retry, and every sequence end with
the work that waits at it: `base` is the state with the item settled or dropped and the engine idle, from which the engine goes
on with the head bad-spare item before every record, and else with the oldest record that wants to be recorded. R172, R174: what an
idle engine takes up at any moment (`startPersist`); one that programs, and one in the LOADING part, takes up nothing. -/
def Obligations.ProgramCompletes : Prop :=
  (∀ s : State,
    ((s.phase = .loading ∨ s.persist.program.isSome = true) → startPersist s = s) ∧
    (s.phase = .running → s.persist.program = none → WorkTakenUp s (startPersist s))) ∧
  ∀ (s : State) (p : Program), s.persist.program = some p → s.phase = .running →
    (∀ b : SpareName, p.item = .badSpare b → s.persist.badSpares = [b] → (∀ r ∈ s.table, r.persistWanted = false) →
      exec (.persistProgramComplete true) s = .next { s with
        store := s.store.set p.slot.val (.valid p.item), persist := ⟨[], none⟩ } ∧
      (3 ≤ p.tries → exec (.persistProgramComplete false) s = .next { s with
        store := s.store.set p.slot.val .burned, persist := ⟨[], none⟩
        attn := { s.attn with flags := s.attn.flags ||| BitVec.twoPow 10 7 } })) ∧
    (∀ (k : RowKey) (i : SpareIdx), p.item = .repair k i → s.persist.badSpares = [] →
      (∀ r ∈ s.table, r.persistWanted = true → r.key = k ∧ r.homeSpare = some i) →
      exec (.persistProgramComplete true) s = .next { s with
        store := s.store.set p.slot.val (.valid p.item), persist := ⟨[], none⟩
        table := s.table.map fun r =>
          if r.key = k ∧ r.homeSpare = some i then { r with persisted := true, persistWanted := false } else r } ∧
      (3 ≤ p.tries → exec (.persistProgramComplete false) s = .next { s with
        store := s.store.set p.slot.val .burned, persist := ⟨[], none⟩
        attn := { s.attn with flags := s.attn.flags ||| BitVec.twoPow 10 7 }
        table := s.table.map fun r =>
          if r.key = k ∧ r.homeSpare = some i then { r with persistWanted := false } else r })) ∧
    (∀ n : Fin 64, p.tries < 3 → n ≠ p.slot → s.store[n] = .empty →
      (∀ m : Fin 64, m < n → m ≠ p.slot → s.store[m] ≠ .empty) →
      exec (.persistProgramComplete false) s = .next { s with
        store := s.store.set p.slot.val .burned
        persist := { s.persist with program := some ⟨n, p.item, p.tries + 1⟩ } }) ∧
    (p.tries < 3 → (∀ n : Fin 64, n ≠ p.slot → s.store[n] ≠ .empty) →
      exec (.persistProgramComplete false) s = .next { s with
        store := s.store.set p.slot.val .burned
        persist := ⟨[], none⟩
        attn := { s.attn with flags := s.attn.flags ||| BitVec.twoPow 10 8 }
        table := s.table.map fun r => { r with persistWanted := false } }) ∧
    (∀ (ok : Bool) (base : State),
      ((∃ b : SpareName, p.item = .badSpare b ∧
          (ok = true ∧ base = { s with
              store := s.store.set p.slot.val (.valid p.item)
              persist := ⟨s.persist.badSpares.filter fun x => x != b, none⟩ } ∨
            ok = false ∧ 3 ≤ p.tries ∧ base = { s with
              store := s.store.set p.slot.val .burned
              persist := ⟨s.persist.badSpares.filter fun x => x != b, none⟩
              attn := { s.attn with flags := s.attn.flags ||| BitVec.twoPow 10 7 } })) ∨
        ∃ (k : RowKey) (i : SpareIdx), p.item = .repair k i ∧
          (ok = true ∧ base = { s with
              store := s.store.set p.slot.val (.valid p.item)
              persist := ⟨s.persist.badSpares, none⟩
              table := s.table.map fun r =>
                if r.key = k ∧ r.homeSpare = some i then { r with persisted := true, persistWanted := false } else r } ∨
            ok = false ∧ 3 ≤ p.tries ∧ base = { s with
              store := s.store.set p.slot.val .burned
              persist := ⟨s.persist.badSpares, none⟩
              attn := { s.attn with flags := s.attn.flags ||| BitVec.twoPow 10 7 }
              table := s.table.map fun r =>
                if r.key = k ∧ r.homeSpare = some i then { r with persistWanted := false } else r })) →
      ∃ u : State, exec (.persistProgramComplete ok) s = .next u ∧ WorkTakenUp base u)

/-! ### The management port (spec/11, with spec/04, spec/09, spec/10) -/

/-- R179, R182: a byte of the management port is shifted most significant bit first and received at its eighth bit; the first byte
decides what a transaction is, 00h a response transaction and any other value the command of its code, with the bytes after it
its arguments and one to seven bits left over a partial byte; bits that make no byte open nothing. R179, R181: a partial
command transaction has no effect but the ones of FFh shifted out, up to the last bit of the partial byte; the checks that a
complete one can fail, in their order, each answered with no effect on any block. -/
def Obligations.PortChecksInOrder : Prop :=
  ((∀ b : Byte, bitsOf [b] = [b.getLsbD 7, b.getLsbD 6, b.getLsbD 5, b.getLsbD 4, b.getLsbD 3, b.getLsbD 2, b.getLsbD 1,
      b.getLsbD 0]) ∧
    (∀ (first : Byte) (args : List Byte) (rest : List Bool) (tail : Fin 8) (prompt : Bool), rest.length = tail.val →
      (first = 0 → readTransaction (bitsOf (first :: args) ++ rest) prompt = some (.responseTransaction args.length tail)) ∧
      (first ≠ 0 → ∃ c : Instr, readTransaction (bitsOf (first :: args) ++ rest) prompt = some c ∧ c.wellFormed = true ∧
        (transaction c = some (first, args, tail, prompt) ∨
          (argumentCount first = none ∨ first = 0x7F) ∧ transaction c = some (first, args, tail, true)))) ∧
    (∀ (bits : List Bool) (prompt : Bool), bits.length < 8 → readTransaction bits prompt = none) ∧
    (∀ bits : List Bool, 8 ≤ bits.length → ∃ (first : Byte) (args : List Byte) (rest : List Bool),
      rest.length < 8 ∧ bits = bitsOf (first :: args) ++ rest)) ∧
  (∀ (s : State) (c : Instr) (code : Byte) (args : List Byte) (tail : Fin 8) (prompt : Bool),
    c.wellFormed = true → transaction c = some (code, args, tail, prompt) → tail ≠ 0 →
    exec c s = .next { s with port := { s.port with
      spiOut := List.replicate (8 * (args.length + 1) + tail.val) true } }) ∧
  (∀ (s : State) (c : Instr) (code : Byte) (args : List Byte) (prompt : Bool),
    c.wellFormed = true → transaction c = some (code, args, 0, prompt) →
    (argumentCount code = none → exec c s = .next { s with port := rejectedPort s args.length .badCommand }) ∧
    (∀ n : Nat, argumentCount code = some n →
      (args.length ≠ n → exec c s = .next { s with port := rejectedPort s args.length .badArgument }) ∧
      (args.length = n → s.phase = .loading → code ≠ 0x01 →
        exec c s = .next { s with port := rejectedPort s args.length .busy }) ∧
      (args.length = n → (s.phase = .running ∨ code = 0x01) → s.port.awaiting.isSome = true → code ≠ 0x7F →
        exec c s = .next { s with port := rejectedPort s args.length .busy }) ∧
      (args.length = n → s.phase = .running → s.port.awaiting = none → outOfRange code args = true →
        exec c s = .next { s with port := rejectedPort s args.length .badArgument })))

/-- R180, R181: a command that passes the checks and is not taken up at once stands as PENDING; COMMAND_TAKE_UP then gives
what taking it up at once would have given; a STATUS so in LOADING too (R183). That the sender chooses between the two is log 4,
the model's choice. A command whose response is discarded has its whole effect and prepares no response: what is held stays. With
nothing awaiting, COMMAND_TAKE_UP does not take place (log 1, the model's choice). -/
def Obligations.TakeUpCompletesPending : Prop :=
  (∀ (s : State) (c c' : Instr) (code : Byte) (args : List Byte),
    c.wellFormed = true → c'.wellFormed = true →
    transaction c = some (code, args, 0, false) → transaction c' = some (code, args, 0, true) →
    argumentCount code = some args.length → outOfRange code args = false →
    (s.phase = .running ∨ code = 0x01) → s.port.awaiting = none →
    ∃ cmd : PortCommand, exec c s = .next { s with
        port := ⟨some ⟨.pending, [], false⟩, some ⟨cmd, false⟩, s.port.restart,
          List.replicate (8 * (args.length + 1)) true⟩ } ∧
      exec .commandTakeUp { s with
        port := ⟨some ⟨.pending, [], false⟩, some ⟨cmd, false⟩, s.port.restart,
          List.replicate (8 * (args.length + 1)) true⟩ } =
      exec c' s) ∧
  (∀ (s : State) (k : RowKey) (r : Record) (discarded : Bool), s.port.awaiting = some ⟨.pin k, discarded⟩ →
    lookup s k = some r →
    exec .commandTakeUp s = .next { s with
      table := s.table.map fun r => if r.key = k then { r with pinned := true } else r
      port := { s.port with
        awaiting := none
        held := if discarded then s.port.held else some ⟨.ok, [], false⟩ } }) ∧
  (∀ (s : State) (cmd : PortCommand),
    ∃ u : State,
      exec .commandTakeUp { s with port := { s.port with awaiting := some ⟨cmd, false⟩ } } = .next u ∧
      exec .commandTakeUp { s with port := { s.port with awaiting := some ⟨cmd, true⟩ } } =
        .next { u with port := { u.port with held := s.port.held } } ∧
      u.port.awaiting = none ∧ u.port.restart = s.port.restart ∧ u.port.spiOut = s.port.spiOut) ∧
  (∀ s : State, s.port.awaiting = none → exec .commandTakeUp s = .next s)

/-- R179, R180, R184: the bits that a response transaction shifts out after its first byte, each byte most significant bit first,
up to the last bit of a partial byte; and when the transaction clears the restart flag. That a
partial one clears nothing is the model's reading (log 7), and that 01h in its second data byte reports the flag set is
presumed (log 25). -/
def Obligations.ResponseShiftedOut : Prop :=
  ∀ (s : State) (bytes : Nat) (tail : Fin 8),
    ∃ (out : List Bool) (restart : Bool), exec (.responseTransaction bytes tail) s = .next { s with
        port := { s.port with spiOut := out, restart := restart } } ∧
      out.length = 8 * bytes + tail.val ∧
      (s.port.held = none → out = List.replicate (8 * bytes + tail.val) true) ∧
      (∀ h : Held, s.port.held = some h → ∀ i j : Nat, j < 8 → 8 * i + j < 8 * bytes + tail.val →
        out[8 * i + j]? = some ((((h.status.code :: h.data)[i]?).getD 0xFF).getLsbD (7 - j))) ∧
      (restart = false ↔ s.port.restart = false ∨
        ∃ h : Held, s.port.held = some h ∧ h.isReport = true ∧ h.data[1]? = some 1 ∧ 25 ≤ bytes ∧ tail = 0)

/-- R75, R76, R165, R178, R183, R187, R190: the commands that read, each answered with its report; nothing but the port
changes. STATUS is answered in LOADING too. -/
def Obligations.QueriesAnswerReports : Prop :=
  (∀ s : State, s.port.awaiting = none →
    exec (.status [] 0 true) s = .next { s with port := answeredPort s 0 .ok (statusReport s) true }) ∧
  ∀ s : State, PortReady s →
    (∀ (k : RowKey) (r : Record), lookup s k = some r →
      exec (.findRecord (keyBytes k) 0 true) s = .next { s with port := answeredPort s 4 .ok (recordReport r) false }) ∧
    (∀ k : RowKey, lookup s k = none →
      exec (.findRecord (keyBytes k) 0 true) s = .next { s with port := answeredPort s 4 .notFound [] false }) ∧
    (∀ (n : Fin 256) (next : List Byte),
      ((∃ m : Fin 256, n < m ∧ (∃ r ∈ s.table, r.slot = m) ∧ (∀ i : Fin 256, n < i → i < m → ∀ r ∈ s.table, r.slot ≠ i) ∧
          next = [1, BitVec.ofNat 8 m.val]) ∨
        ((∀ r ∈ s.table, ¬ n < r.slot) ∧ next = [0, 0xFF])) →
      (∀ (before after : List Record) (r : Record), s.table = before ++ r :: after → r.slot = n →
        (∀ r' ∈ before, r'.slot ≠ n) →
        exec (.readRecord [BitVec.ofNat 8 n.val] 0 true) s =
          .next { s with port := answeredPort s 1 .ok (next ++ recordReport r) false }) ∧
      ((∀ r ∈ s.table, r.slot ≠ n) →
        exec (.readRecord [BitVec.ofNat 8 n.val] 0 true) s =
          .next { s with port := answeredPort s 1 .notFound next false })) ∧
    (∀ (rank : Rank) (bank : Bank),
      exec (.spareMap [BitVec.ofNat 8 rank.val, BitVec.ofNat 8 bank.val] 0 true) s =
        .next { s with port := answeredPort s 2 .ok (spareMapReport s (bankPos rank bank)) false }) ∧
    (∀ n : Fin 64,
      exec (.readStore [BitVec.ofNat 8 n.val] 0 true) s =
        .next { s with port := answeredPort s 1 .ok (storeSlotReport s n) false }) ∧
    (∀ id : ParamId,
      exec (.getParam [id.code] 0 true) s =
        .next { s with port := answeredPort s 1 .ok (id.code :: bytesOf 4 (s.params.get id)) false }) ∧
    exec (.readCounters [] 0 true) s =
      .next { s with port := answeredPort s 0 .ok (s.counters.inOrder.flatMap (bytesOf 4)) false }

/-- R77, R165, R178, R182, R183: the lengths of the reports, and every byte of each by the fields it tells of. That a yes-or-no
byte is 01h or 00h is log 25, and that the bits no name is given to are 0 is log 29, both the model's. -/
def Obligations.ReportsHaveTheirLengths : Prop :=
  (∀ s : State, (statusReport s).length = 24) ∧
  (∀ r : Record, r.poison.length ≤ 4 → (recordReport r).length = 28 ∧
    (recordReport r).take 7 = [BitVec.ofNat 8 r.slot.val, BitVec.ofNat 8 r.key.rank.val, BitVec.ofNat 8 r.key.bank.val,
      BitVec.ofNat 8 (r.key.row.val / 256), BitVec.ofNat 8 r.key.row.val, r.state.code, r.origin.code]) ∧
  (∀ (s : State) (p : BankPos), (spareMapReport s p).length = 193) ∧
  (∀ (s : State) (n : Fin 64), (storeSlotReport s n).length = 8) ∧
  (∀ k : Counters, (k.inOrder.flatMap (bytesOf 4)).length = 48) ∧
  (∀ v : BitVec 32, numberOf (bytesOf 4 v.toNat) = v.toNat) ∧
  ([RecordState.watch, .suspect, .queued, .migrating, .spared, .condemned].map RecordState.code = [0, 1, 2, 3, 4, 5] ∧
    [Origin.hostRead, .maskedWrite, .patrol, .verify, .copy, .store, .command].map Origin.code = [0, 1, 2, 3, 4, 5, 6] ∧
    [LinkState.down, .up, .fault].map LinkState.code = [0, 1, 2] ∧
    [HoldState.idle, .inForce, .expired].map HoldState.code = [0, 1, 2] ∧
    [QuietState.notQuiet, .settling, .quiet].map QuietState.code = [0, 1, 2] ∧
    [Phase.loading, .running].map Phase.code = [0, 1] ∧ [MigPhase.copy, .check].map MigPhase.code = [0, 1] ∧
    [Status.ok, .adjusted, .pending, .badCommand, .badArgument, .notFound, .wrongState, .tableFull, .busy].map Status.code =
      [0x00, 0x01, 0x02, 0x10, 0x11, 0x12, 0x13, 0x14, 0x15] ∧
    ∀ k : RowKey, keyBytes k = [BitVec.ofNat 8 k.rank.val, BitVec.ofNat 8 k.bank.val, BitVec.ofNat 8 (k.row.val / 256),
      BitVec.ofNat 8 k.row.val]) ∧
  (∀ r : Record, (recordReport r).drop 7 =
    [BitVec.ofNat 8 (r.weight / 256), BitVec.ofNat 8 r.weight, BitVec.ofNat 8 (r.corrections / 256),
      BitVec.ofNat 8 r.corrections,
      BitVec.ofNat 8 ((if r.signature.isSome then 1 else 0) + (if r.homeSpare.isSome then 2 else 0) +
        (if r.destSpare.isSome then 4 else 0) + (if r.migration.isSome then 8 else 0)),
      BitVec.ofNat 8 ((if r.urgent then 1 else 0) + (if r.overflow then 2 else 0) + (if r.pinned then 4 else 0) +
        (if r.blocked then 8 else 0) + (if r.persisted then 16 else 0) + (if r.persistWanted then 32 else 0))] ++
    (match r.signature with
      | some g => [BitVec.ofNat 8 g.cell.column.val, BitVec.ofNat 8 g.cell.word.val, BitVec.ofNat 8 g.cell.position.val,
          BitVec.ofNat 8 g.repeats]
      | none => [0xFF, 0xFF, 0xFF, 0xFF]) ++
    [match r.homeSpare with
      | some i => BitVec.ofNat 8 i.val
      | none => 0xFF,
     match r.destSpare with
      | some i => BitVec.ofNat 8 i.val
      | none => 0xFF] ++
    (match r.migration with
      | some g => [g.phase.code, BitVec.ofNat 8 g.copyCursor, BitVec.ofNat 8 g.checkCursor, BitVec.ofNat 8 g.attempt]
      | none => [0xFF, 0xFF, 0xFF, 0xFF]) ++
    BitVec.ofNat 8 r.poison.length ::
      ((r.poison.map fun c => BitVec.ofNat 8 c.val) ++ List.replicate (4 - r.poison.length) 0xFF)) ∧
  (∀ (s : State) (engine : List Byte),
    (migrating s = none ∧ engine = [0, 0xFF, 0xFF, 0xFF, 0xFF, 0xFF] ∨
      ∃ (r : Record) (g : MigSub), migrating s = some r ∧ r.migration = some g ∧
        engine = 1 :: (keyBytes r.key ++ [g.phase.code])) →
    statusReport s =
      [s.phase.code, if s.port.restart then 1 else 0, s.link.state.code, s.hold.state.code, s.quiet.state.code,
        BitVec.ofNat 8 (s.table.length / 256), BitVec.ofNat 8 s.table.length,
        BitVec.ofNat 8 (((List.finRange 32).map (freeCount s.spares)).sum / 256),
        BitVec.ofNat 8 ((List.finRange 32).map (freeCount s.spares)).sum] ++ engine ++
      [if s.persist.program.isSome then 1 else 0,
        BitVec.ofNat 8 ((List.finRange 64).countP fun n => s.store[n] == .empty),
        BitVec.ofNat 8 (s.patrol.passNumber.toNat / 256), BitVec.ofNat 8 s.patrol.passNumber.toNat,
        BitVec.ofNat 8 s.patrol.credits,
        BitVec.ofNat 8 (s.attn.flags.toNat / 256), BitVec.ofNat 8 s.attn.flags.toNat,
        BitVec.ofNat 8 (s.attn.enables.toNat / 256), BitVec.ofNat 8 s.attn.enables.toNat]) ∧
  (∀ (s : State) (p : BankPos),
    freeCount s.spares p = ((List.finRange 32).countP fun i => spareState s.spares p i == .free) ∧
    (spareMapReport s p).take 1 = [BitVec.ofNat 8 (freeCount s.spares p)] ∧
    ∀ i : SpareIdx,
      (spareState s.spares p i = .free →
        ((spareMapReport s p).drop (1 + 6 * i.val)).take 6 = [0, 0xFF, 0xFF, 0xFF, 0xFF, 0xFF]) ∧
      (spareState s.spares p i = .burned →
        ((spareMapReport s p).drop (1 + 6 * i.val)).take 6 = [2, 0xFF, 0xFF, 0xFF, 0xFF, 0xFF]) ∧
      (∀ r ∈ s.table, spareState s.spares p i = .assigned → keyPos r.key = p →
        (∀ r' ∈ s.table, keyPos r'.key = p → r'.homeSpare = some i ∨ r'.destSpare = some i → r' = r) →
        (r.homeSpare = some i →
          ((spareMapReport s p).drop (1 + 6 * i.val)).take 6 = 1 :: 0 :: keyBytes r.key) ∧
        (r.homeSpare ≠ some i → r.destSpare = some i →
          ((spareMapReport s p).drop (1 + 6 * i.val)).take 6 = 1 :: 1 :: keyBytes r.key))) ∧
  (∀ (s : State) (n : Fin 64),
    (s.store[n] = .empty → storeSlotReport s n = [BitVec.ofNat 8 n.val, 0, 0xFF, 0xFF, 0xFF, 0xFF, 0xFF, 0xFF]) ∧
    (s.store[n] = .burned → storeSlotReport s n = [BitVec.ofNat 8 n.val, 2, 0xFF, 0xFF, 0xFF, 0xFF, 0xFF, 0xFF]) ∧
    (∀ (k : RowKey) (i : SpareIdx), s.store[n] = .valid (.repair k i) →
      storeSlotReport s n = [BitVec.ofNat 8 n.val, 1, 0] ++ keyBytes k ++ [BitVec.ofNat 8 i.val]) ∧
    (∀ b : SpareName, s.store[n] = .valid (.badSpare b) →
      storeSlotReport s n = [BitVec.ofNat 8 n.val, 1, 1, BitVec.ofNat 8 (b.pos.val / 16), BitVec.ofNat 8 (b.pos.val % 16),
        0xFF, 0xFF, BitVec.ofNat 8 b.idx.val])) ∧
  (∀ k : Counters, k.inOrder = [k.hostCorrected, k.patrolCorrected, k.uncorrectable, k.poisonReads, k.wbSuperseded,
    k.wbDropped, k.verifyDropped, k.tableOverflow, k.patrolOverrun, k.migrationsDone, k.sparesBurned, k.holdExpired])

/-- R67, R72, R78, R79: WATCH_ROW, PIN, UNPIN and RELEASE. R64, R65: with every slot occupied, WATCH_ROW on a key without a record
gives the new one the slot of the record evicted, the candidate of lowest weight, the oldest among equals. -/
def Obligations.RecordCommandsTakeEffect : Prop :=
  ∀ (s : State) (k : RowKey), PortReady s →
    (∀ r : Record, lookup s k = some r →
      exec (.watchRow (keyBytes k) 0 true) s = .next { s with
        table := s.table.map fun r => if r.key = k then { r with pinned := true } else r
        port := answeredPort s 4 .ok [BitVec.ofNat 8 r.slot.val] false } ∧
      exec (.pin (keyBytes k) 0 true) s = .next { s with
        table := s.table.map fun r => if r.key = k then { r with pinned := true } else r
        port := answeredPort s 4 .ok [] false } ∧
      exec (.unpin (keyBytes k) 0 true) s = .next { s with
        table := s.table.map fun r => if r.key = k then { r with pinned := false } else r
        port := answeredPort s 4 .ok [] false } ∧
      (r.homeSpare = none → (r.state = .watch ∨ r.state = .suspect ∨ r.state = .queued ∨ r.state = .condemned) →
        exec (.release (keyBytes k) 0 true) s = .next { s with
          table := s.table.filter fun r => r.key != k
          queue := ⟨s.queue.urgent.filter fun x => x != k, s.queue.normal.filter fun x => x != k⟩
          port := answeredPort s 4 .ok [] false }) ∧
      ((r.homeSpare.isSome = true ∨ r.state = .spared ∨ r.state = .migrating) →
        exec (.release (keyBytes k) 0 true) s = .next { s with port := answeredPort s 4 .wrongState [] false })) ∧
    (lookup s k = none →
      exec (.pin (keyBytes k) 0 true) s = .next { s with port := answeredPort s 4 .notFound [] false } ∧
      exec (.unpin (keyBytes k) 0 true) s = .next { s with port := answeredPort s 4 .notFound [] false } ∧
      exec (.release (keyBytes k) 0 true) s = .next { s with port := answeredPort s 4 .notFound [] false } ∧
      (∀ n : Fin 256, (∀ r ∈ s.table, r.slot ≠ n) → (∀ m : Fin 256, m < n → ∃ r ∈ s.table, r.slot = m) →
        exec (.watchRow (keyBytes k) 0 true) s = .next { s with
          table := s.table ++ [{
            slot := n, key := k, state := .watch, weight := 0, corrections := 0, signature := none, homeSpare := none
            destSpare := none, migration := none, urgent := false, poison := [], overflow := false, pinned := true
            blocked := false, persisted := false, persistWanted := false, origin := .command }]
          port := answeredPort s 4 .ok [BitVec.ofNat 8 n.val] false }) ∧
      ((∀ n : Fin 256, ∃ r ∈ s.table, r.slot = n) → (∀ r ∈ s.table, r.evictable = false) →
        exec (.watchRow (keyBytes k) 0 true) s = .next { s with port := answeredPort s 4 .tableFull [] false }) ∧
      (∀ (before after : List Record) (v : Record), Evicts s before v after →
        exec (.watchRow (keyBytes k) 0 true) s = .next { s with
          table := before ++ after ++ [{
            slot := v.slot, key := k, state := .watch, weight := 0, corrections := 0, signature := none, homeSpare := none
            destSpare := none, migration := none, urgent := false, poison := [], overflow := false, pinned := true
            blocked := false, persisted := false, persistWanted := false, origin := .command }]
          port := answeredPort s 4 .ok [BitVec.ofNat 8 v.slot.val] false }))

/-- R68, R163, R164, R177: FORCE_SPARE, ABORT_MIGRATION and PERSIST, on a key with a record and on a key without; a FORCE_SPARE that
evicts (R64, R65). After a change of the queue the idle engine takes its head: `serveQueue`, of which EngineTakesHead speaks.
After PERSIST sets persist wanted the idle persist engine begins a program of its choice (R172), or, in a full store, gives its
work up and sets STORE_FULL (R174). -/
def Obligations.SparingCommandsTakeEffect : Prop :=
  (∀ (s : State) (k : RowKey) (r : Record), PortReady s → lookup s k = some r →
    (r.state = .watch ∨ r.state = .suspect ∨ r.state = .spared ∨
        (r.state = .condemned ∧ freeCount s.spares (keyPos k) ≠ 0) →
      exec (.forceSpare (keyBytes k) 0 true) s = .next (serveQueue { s with
        table := s.table.map fun r => if r.key = k then { r with state := .queued, urgent := true, blocked := false } else r
        queue := ⟨(s.queue.urgent.filter fun x => x != k) ++ [k], s.queue.normal.filter fun x => x != k⟩
        port := answeredPort s 4 .ok [] false })) ∧
    (r.state = .queued →
      exec (.forceSpare (keyBytes k) 0 true) s = .next (serveQueue { s with
        table := s.table.map fun r => if r.key = k then { r with state := .queued, urgent := true } else r
        queue := ⟨(s.queue.urgent.filter fun x => x != k) ++ [k], s.queue.normal.filter fun x => x != k⟩
        port := answeredPort s 4 .ok [] false })) ∧
    ((r.state = .migrating ∨ (r.state = .condemned ∧ freeCount s.spares (keyPos k) = 0)) →
      exec (.forceSpare (keyBytes k) 0 true) s = .next { s with port := answeredPort s 4 .wrongState [] false }) ∧
    (r.state = .queued →
      exec (.abortMigration (keyBytes k) 0 true) s = .next { s with
        table := s.table.map fun r => if r.key = k then { r with
          state := if r.homeSpare.isSome then .spared else .suspect
          destSpare := none, migration := none, urgent := false, blocked := true } else r
        queue := ⟨s.queue.urgent.filter fun x => x != k, s.queue.normal.filter fun x => x != k⟩
        port := answeredPort s 4 .ok [] false }) ∧
    (∀ d : SpareIdx, r.state = .migrating → r.destSpare = some d →
      ∃ (m : Sparse SpareUse) (e : Engine) (slot : Option Holder),
        exec (.abortMigration (keyBytes k) 0 true) s = .next (serveQueue { s with
          table := s.table.map fun r => if r.key = k then { r with
            state := if r.homeSpare.isSome then .spared else .suspect
            destSpare := none, migration := none, urgent := false, blocked := true } else r
          spares := m, engine := e, slot := slot, port := answeredPort s 4 .ok [] false }) ∧
        spareState m (keyPos k) d = .free ∧
        (∀ (p : BankPos) (i : SpareIdx), (p, i) ≠ (keyPos k, d) → spareState m p i = spareState s.spares p i) ∧
        e.marked = [] ∧
        (s.engine.step = none → e.step = none ∧ slot = s.slot) ∧
        (∀ (st : MigStep) (found : LineContent), s.engine.step = some st → st.stage = .awaitHost found →
          e.step = none ∧ slot = none) ∧
        (∀ st : MigStep, s.engine.step = some st → (∀ found : LineContent, st.stage ≠ .awaitHost found) →
          e.step = some { st with leftover := true } ∧ slot = s.slot)) ∧
    (r.state ≠ .queued → r.state ≠ .migrating →
      exec (.abortMigration (keyBytes k) 0 true) s = .next { s with port := answeredPort s 4 .wrongState [] false }) ∧
    (r.persisted = true → exec (.persist (keyBytes k) 0 true) s =
      .next { s with port := answeredPort s 4 .ok [] false }) ∧
    (r.persisted = false → r.state ≠ .spared → exec (.persist (keyBytes k) 0 true) s =
      .next { s with port := answeredPort s 4 .wrongState [] false }) ∧
    (∀ p : Program, r.persisted = false → r.state = .spared → s.persist.program = some p →
      exec (.persist (keyBytes k) 0 true) s = .next { s with
        table := s.table.map fun r => if r.key = k then { r with persistWanted := true } else r
        port := answeredPort s 4 .ok [] false }) ∧
    (∀ (h : SpareIdx) (n : Fin 64), r.persisted = false → r.state = .spared → r.homeSpare = some h →
      s.persist = ⟨[], none⟩ → (∀ r' ∈ s.table, r'.persistWanted = false) →
      s.store[n] = .empty → (∀ m : Fin 64, m < n → s.store[m] ≠ .empty) →
      exec (.persist (keyBytes k) 0 true) s = .next { s with
        table := s.table.map fun r => if r.key = k then { r with persistWanted := true } else r
        persist := ⟨[], some ⟨n, .repair k h, 1⟩⟩
        port := answeredPort s 4 .ok [] false }) ∧
    (∀ (h : SpareIdx) (item : StoreItem) (n : Fin 64), r.persisted = false → r.state = .spared → r.homeSpare = some h →
      s.persist.program = none → LowestEmpty s.store n →
      NextWork s.persist.badSpares (s.table.map fun r => if r.key = k then { r with persistWanted := true } else r)
        (some item) →
      exec (.persist (keyBytes k) 0 true) s = .next { s with
        table := s.table.map fun r => if r.key = k then { r with persistWanted := true } else r
        persist := { s.persist with program := some ⟨n, item, 1⟩ }
        port := answeredPort s 4 .ok [] false }) ∧
    (∀ h : SpareIdx, r.persisted = false → r.state = .spared → r.homeSpare = some h → s.persist.program = none →
      (∀ n : Fin 64, s.store[n] ≠ .empty) →
      exec (.persist (keyBytes k) 0 true) s = .next { s with
        table := s.table.map fun r => { r with persistWanted := false }
        persist := ⟨[], none⟩
        attn := { s.attn with flags := s.attn.flags ||| BitVec.twoPow 10 8 }
        port := answeredPort s 4 .ok [] false })) ∧
  (∀ (s : State) (k : RowKey), PortReady s → lookup s k = none →
    exec (.abortMigration (keyBytes k) 0 true) s = .next { s with port := answeredPort s 4 .notFound [] false } ∧
    exec (.persist (keyBytes k) 0 true) s = .next { s with port := answeredPort s 4 .notFound [] false } ∧
    (∀ n : Fin 256, (∀ r ∈ s.table, r.slot ≠ n) → (∀ m : Fin 256, m < n → ∃ r ∈ s.table, r.slot = m) →
      exec (.forceSpare (keyBytes k) 0 true) s = .next (serveQueue { s with
        table := s.table ++ [{
          slot := n, key := k, state := .queued, weight := 0, corrections := 0, signature := none, homeSpare := none
          destSpare := none, migration := none, urgent := true, poison := [], overflow := false, pinned := false
          blocked := false, persisted := false, persistWanted := false, origin := .command }]
        queue := ⟨(s.queue.urgent.filter fun x => x != k) ++ [k], s.queue.normal.filter fun x => x != k⟩
        port := answeredPort s 4 .ok [] false })) ∧
    ((∀ n : Fin 256, ∃ r ∈ s.table, r.slot = n) → (∀ r ∈ s.table, r.evictable = false) →
      exec (.forceSpare (keyBytes k) 0 true) s = .next { s with port := answeredPort s 4 .tableFull [] false }) ∧
    (∀ (before after : List Record) (v : Record), Evicts s before v after →
      exec (.forceSpare (keyBytes k) 0 true) s = .next (serveQueue { s with
        table := before ++ after ++ [{
          slot := v.slot, key := k, state := .queued, weight := 0, corrections := 0, signature := none, homeSpare := none
          destSpare := none, migration := none, urgent := true, poison := [], overflow := false, pinned := false
          blocked := false, persisted := false, persistWanted := false, origin := .command }]
        queue := ⟨(s.queue.urgent.filter fun x => x != k) ++ [k], s.queue.normal.filter fun x => x != k⟩
        port := answeredPort s 4 .ok [] false })))

/-- R185, R188: the identifiers, the ranges and the defaults of the fourteen parameters. R186, R125, R136: SET_PARAM. `v` is the
value after the clamp. A bank mask that is not empty restarts the pace interval; one that excludes the cursor's position, with
no row patrol in progress, advances the cursor at once (`advanceCursor`: R120, R131), and a row patrol may then begin
(`beginRow`: R126, PaceTimerEarnsCredits). -/
def Obligations.SetParamClampsAndSets : Prop :=
  (allParams = [.wHost, .wPatrol, .bonus, .tSuspect, .tSpare, .stuck, .decayShift, .period, .bankMask, .urgentThreshold,
      .quietThreshold, .dwell, .holdLimit, .autoPersist] ∧
    allParams.map ParamId.code = [1, 2, 3, 4, 5, 6, 7, 8, 9, 10, 11, 12, 13, 14] ∧
    allParams.map ParamId.range = [(1, 255), (1, 255), (0, 1023), (1, 4095), (1, 4095), (2, 15), (1, 8), (60, 2880),
      (0, 4294967295), (1, 64), (0, 31), (1, 1000), (1, 1000), (0, 1)] ∧
    allParams.map State.reset.params.get = [64, 32, 256, 256, 1024, 3, 3, 720, 4294967295, 32, 2, 4, 50, 1]) ∧
  ∀ (s : State) (id : ParamId) (value : BitVec 32) (v : Nat), PortReady s →
    (value.toNat < id.range.1 ∧ v = id.range.1 ∨ id.range.2 < value.toNat ∧ v = id.range.2 ∨
      id.range.1 ≤ value.toNat ∧ value.toNat ≤ id.range.2 ∧ v = value.toNat) →
    ((id = .tSpare ∧ v ≤ s.params.tSuspect ∨ id = .tSuspect ∧ s.params.tSpare ≤ v) →
      exec (.setParam (id.code :: bytesOf 4 value.toNat) 0 true) s =
        .next { s with port := answeredPort s 5 .badArgument [] false }) ∧
    (¬ (id = .tSpare ∧ v ≤ s.params.tSuspect ∨ id = .tSuspect ∧ s.params.tSpare ≤ v) →
      ∃ (p : Params) (patrol : Patrol) (quiet : Quiet) (table : List Record),
        exec (.setParam (id.code :: bytesOf 4 value.toNat) 0 true) s = .next { s with
          params := p, patrol := patrol, quiet := quiet, table := table
          port := answeredPort s 5 (if v = value.toNat then .ok else .adjusted) (id.code :: bytesOf 4 v) false } ∧
        p.get id = v ∧ (∀ id' : ParamId, id' ≠ id → p.get id' = s.params.get id') ∧
        (id ≠ .bankMask → table = s.table) ∧
        (id = .bankMask → patrol.paceTimer = paceInterval p) ∧
        (id ≠ .period → id ≠ .bankMask → patrol = s.patrol) ∧
        (id = .period → patrol = { s.patrol with paceTimer := paceInterval p }) ∧
        (id = .bankMask → v = 0 → patrol = { s.patrol with paceTimer := none, credits := 0 } ∧ table = s.table) ∧
        (id = .bankMask → v ≠ 0 → (s.patrol.current.isSome = true ∨ s.patrol.credits = 0 ∧ v.testBit s.patrol.pos.val) →
          patrol = { s.patrol with paceTimer := paceInterval p } ∧ table = s.table) ∧
        (∀ s₁ : State, id = .bankMask → v ≠ 0 →
          s₁ = { s with params := p, patrol := { s.patrol with paceTimer := paceInterval p } } →
          (s.patrol.current = none → v.testBit s.patrol.pos.val = false →
            patrol = (beginRow (advanceCursor s₁)).patrol ∧ table = (beginRow (advanceCursor s₁)).table) ∧
          ((s.patrol.current.isSome = true ∨ v.testBit s.patrol.pos.val = true) →
            patrol = (beginRow s₁).patrol ∧ table = (beginRow s₁).table)) ∧
        (id ≠ .quietThreshold → quiet = s.quiet) ∧
        (id = .quietThreshold → quiet = s.quiet.report p s.quiet.lastOccupancy))

/-- R191 to R194: CLEAR_COUNTERS, ACK_ATTENTION, SET_ATTENTION_MASK and CLEAR, and the ATTN_N line. That CLEAR is taken up at its
transaction's end is the model's reading (log 5). -/
def Obligations.AttentionAndClear : Prop :=
  (∀ s : State, PortReady s →
    exec (.clearCounters [] 0 true) s = .next { s with
      counters := ⟨0, 0, 0, 0, 0, 0, 0, 0, 0, 0, 0, 0⟩, port := answeredPort s 0 .ok [] false } ∧
    (∀ hi lo : Byte,
      exec (.ackAttention [hi, lo] 0 true) s = .next { s with
        attn := { s.attn with flags := s.attn.flags &&& ~~~(hi ++ lo).setWidth 10 }
        port := answeredPort s 2 .ok [] false } ∧
      exec (.setAttentionMask [hi, lo] 0 true) s = .next { s with
        attn := { s.attn with enables := (hi ++ lo).setWidth 10 }
        port := answeredPort s 2 .ok [] false })) ∧
  (∀ s : State, s.phase = .running →
    exec (.clear [] 0) s = .next { s with
      attn := { s.attn with flags := 0 }, port := rejectedPort s 0 .ok }) ∧
  (∀ s : State, s.attnAsserted = true ↔ ∃ i : Nat, i < 10 ∧ s.attn.flags.getLsbD i = true ∧ s.attn.enables.getLsbD i = true)

/-! ### The laws of the device -/

/-- Every law below holds after reset. Where State.reset is the model's choice (log 11, log 12) no law rests on it. -/
def Obligations.ResetMeetsLaws : Prop :=
  MediaLaw State.reset ∧ TagsDistinct State.reset ∧ WbQueueLaw State.reset ∧ VerifyQueueLaw State.reset ∧
  CreditLaw State.reset ∧ BadSpareLaw State.reset ∧ TableLaw State.reset ∧
  (∀ r ∈ State.reset.table, ScoreLaw r ∧ DestinationLaw r) ∧ LoadLaw State.reset ∧ StoreLaw State.reset ∧
  RepairLaw State.reset ∧ SlotLaw State.reset ∧ HolderLaw State.reset

/-- R38, R100, R110, R119, R171: the laws of the tags, the two queues, the credits and the bad-spare list, and the canonical form
of the media, each kept by every step. R139: while the slot is held for exactly the operation in flight (`HolderLaw`, which every
step keeps), at most one background media operation is in flight. -/
def Obligations.MediaAndQueuesStayLawful : Prop :=
  (∀ s t : State, step s = .next t →
    (TagsDistinct s → TagsDistinct t) ∧ (WbQueueLaw s → WbQueueLaw t) ∧ (VerifyQueueLaw s → VerifyQueueLaw t) ∧
    (CreditLaw s → CreditLaw t) ∧ (BadSpareLaw s → BadSpareLaw t)) ∧
  (∀ s t : State, MediaLaw s → step s = .next t → MediaLaw t) ∧
  (∀ s t : State, HolderLaw s → step s = .next t → HolderLaw t ∧ SlotLaw t)

/-- R55, R57, R90: the laws of the fault table, kept by every step. -/
def Obligations.FaultTableStaysLawful : Prop :=
  ∀ s t : State, TableLaw s → (∀ r ∈ s.table, ScoreLaw r ∧ DestinationLaw r) → step s = .next t →
    TableLaw t ∧ ∀ r ∈ t.table, ScoreLaw r ∧ DestinationLaw r

/-- R168: the law of the LOADING phase, kept by every step. -/
def Obligations.LoadingStaysIdle : Prop :=
  ∀ s t : State, LoadLaw s → step s = .next t → LoadLaw t

/-- R54, R55, R57, R145, R149, R150, R160: the laws that tie records, spares, the migration queue and the engine together, kept
by every step. -/
def Obligations.RepairStateStaysLawful : Prop :=
  ∀ s t : State, RepairLaw s → step s = .next t → RepairLaw t

/-- R167: a slot that is VALID or BURNED never becomes EMPTY, whatever the state; a slot changes only by its program, at the
program's completion or where a reset cuts it off; and the EMPTY slots stay one run. -/
def Obligations.StoreNeverEmptiesAgain : Prop :=
  (∀ (s t : State) (n : Fin 64), step s = .next t → t.store[n] ≠ s.store[n] →
    ∃ p : Program, s.persist.program = some p ∧ p.slot = n ∧
      ((∃ (ok : Bool) (rest : List Instr), s.pending = .persistProgramComplete ok :: rest ∧
          t.store[n] = if ok then .valid p.item else .burned) ∨
        (∃ (lost hold : Bool) (rest : List Instr), s.pending = .powerOnReset lost hold :: rest ∧ t.store[n] = .burned))) ∧
  (∀ (s t : State) (n : Fin 64), step s = .next t → s.store[n] ≠ .empty → t.store[n] ≠ .empty) ∧
  (∀ s t : State, StoreLaw s → step s = .next t → StoreLaw t)

/-! ### Frames as bits (spec/03, R35) -/

/-- R35, R36: the codes of the kinds and statuses, and the fields of every frame at their places. R37: the bits of a frame that the
memory controller sends for a command are read as that command, every other run of bits is a bad frame, and by which cause. The
frame check is a free value (log 17), and which one cause is named where several of R37's hold is the model's fixed order (log
17 too); that each data byte is sent most significant bit first is the model's reading (log 30). -/
def Obligations.FramesReadBack : Prop :=
  (allFrameKinds = [.rd, .wr, .mwr, .resetBegin, .resetEnd, .rret, .wret, .ready] ∧
    allFrameKinds.map FrameKind.code = [1, 2, 3, 4, 5, 9, 10, 12] ∧ hostFrameKinds = [1, 2, 3, 4, 5] ∧
    [ReadStatus.clean, .corrected, .poisoned].map ReadStatus.code = [0, 1, 2] ∧
    [WriteStatus.done, .poisonKept].map WriteStatus.code = [0, 1]) ∧
  ((∀ (t : Tag) (l : LineAddr), ∃ bits : List Bool, hostFrame (.rd t l) = some bits ∧
      FieldAt bits 0 4 1 ∧ FieldAt bits 4 5 t.val ∧ FieldAt bits 9 28 l.val ∧ CheckAt bits 37) ∧
    (∀ (t : Tag) (l : LineAddr) (d : LineData), ∃ bits : List Bool, hostFrame (.wr t l d) = some bits ∧
      FieldAt bits 0 4 2 ∧ FieldAt bits 4 5 t.val ∧ FieldAt bits 9 28 l.val ∧ DataAt bits 37 d ∧ CheckAt bits 549) ∧
    (∀ (t : Tag) (l : LineAddr) (d : LineData) (e : BitVec 64), ∃ bits : List Bool, hostFrame (.mwr t l d e) = some bits ∧
      FieldAt bits 0 4 3 ∧ FieldAt bits 4 5 t.val ∧ FieldAt bits 9 28 l.val ∧ FieldAt bits 37 64 e.toNat ∧
      DataAt bits 101 d ∧ CheckAt bits 613) ∧
    (∃ bits : List Bool, hostFrame .resetBegin = some bits ∧ FieldAt bits 0 4 4 ∧ CheckAt bits 4) ∧
    (∃ bits : List Bool, hostFrame .resetEnd = some bits ∧ FieldAt bits 0 4 5 ∧ CheckAt bits 4) ∧
    (∀ (t : Tag) (st : ReadStatus) (d : LineData), FieldAt (OutFrame.rret t st d).bits 0 4 9 ∧
      FieldAt (OutFrame.rret t st d).bits 4 5 t.val ∧ FieldAt (OutFrame.rret t st d).bits 9 2 st.code.toNat ∧
      DataAt (OutFrame.rret t st d).bits 11 d ∧ CheckAt (OutFrame.rret t st d).bits 523) ∧
    (∀ (t : Tag) (st : WriteStatus), FieldAt (OutFrame.wret t st).bits 0 4 10 ∧
      FieldAt (OutFrame.wret t st).bits 4 5 t.val ∧ FieldAt (OutFrame.wret t st).bits 9 2 st.code.toNat ∧
      CheckAt (OutFrame.wret t st).bits 11) ∧
    FieldAt OutFrame.ready.bits 0 4 12 ∧ CheckAt OutFrame.ready.bits 4) ∧
  (∀ (c : Instr) (bits : List Bool), hostFrame c = some bits → readFrame bits = c) ∧
  (∀ bits : List Bool, hostFrame (readFrame bits) = some bits ∨
    ∃ cause : BadFrameCause, cause.isBad = true ∧ readFrame bits = .badFrame cause) ∧
  (∀ bits : List Bool, bits.length < 20 → readFrame bits = .badFrame .length) ∧
  (∀ (bits : List Bool) (n : Nat) (k : BitVec 4), bits.length = n + 16 → 4 ≤ n → FieldAt bits 0 4 k.toNat →
    (¬ CheckAt bits n → readFrame bits = .badFrame .frameCheck) ∧
    (CheckAt bits n →
      (k ∉ hostFrameKinds → readFrame bits = .badFrame (.kind k)) ∧
      (∀ f : FrameKind, k = f.code → k ∈ hostFrameKinds → bits.length ≠ (f.fields.map FrameField.bits).sum →
        readFrame bits = .badFrame .length)))
end

