-- ==== Sys2Proof/Laws/State.lean ====
section
/-! SUPPORT. Laws/State.lean: what each update of one field of State leaves of every field, and that updates of one field
overwrite each other. -/

namespace Sys2Proof.Machine

@[simp] theorem State.setPhase_setPhase (s : State) (v w) : (s.setPhase v).setPhase w = s.setPhase w := rfl
@[simp] theorem State.setPhase_phase (s : State) (v) : (s.setPhase v).phase = v := rfl
@[simp] theorem State.setPhase_loadNext (s : State) (v) : (s.setPhase v).loadNext = s.loadNext := rfl
@[simp] theorem State.setPhase_link (s : State) (v) : (s.setPhase v).link = s.link := rfl
@[simp] theorem State.setPhase_ops (s : State) (v) : (s.setPhase v).ops = s.ops := rfl
@[simp] theorem State.setPhase_stamps (s : State) (v) : (s.setPhase v).stamps = s.stamps := rfl
@[simp] theorem State.setPhase_linkOut (s : State) (v) : (s.setPhase v).linkOut = s.linkOut := rfl
@[simp] theorem State.setPhase_table (s : State) (v) : (s.setPhase v).table = s.table := rfl
@[simp] theorem State.setPhase_wbQueue (s : State) (v) : (s.setPhase v).wbQueue = s.wbQueue := rfl
@[simp] theorem State.setPhase_verifyQueue (s : State) (v) : (s.setPhase v).verifyQueue = s.verifyQueue := rfl
@[simp] theorem State.setPhase_patrol (s : State) (v) : (s.setPhase v).patrol = s.patrol := rfl
@[simp] theorem State.setPhase_quiet (s : State) (v) : (s.setPhase v).quiet = s.quiet := rfl
@[simp] theorem State.setPhase_hold (s : State) (v) : (s.setPhase v).hold = s.hold := rfl
@[simp] theorem State.setPhase_slot (s : State) (v) : (s.setPhase v).slot = s.slot := rfl
@[simp] theorem State.setPhase_spares (s : State) (v) : (s.setPhase v).spares = s.spares := rfl
@[simp] theorem State.setPhase_queue (s : State) (v) : (s.setPhase v).queue = s.queue := rfl
@[simp] theorem State.setPhase_engine (s : State) (v) : (s.setPhase v).engine = s.engine := rfl
@[simp] theorem State.setPhase_store (s : State) (v) : (s.setPhase v).store = s.store := rfl
@[simp] theorem State.setPhase_persist (s : State) (v) : (s.setPhase v).persist = s.persist := rfl
@[simp] theorem State.setPhase_params (s : State) (v) : (s.setPhase v).params = s.params := rfl
@[simp] theorem State.setPhase_counters (s : State) (v) : (s.setPhase v).counters = s.counters := rfl
@[simp] theorem State.setPhase_attn (s : State) (v) : (s.setPhase v).attn = s.attn := rfl
@[simp] theorem State.setPhase_port (s : State) (v) : (s.setPhase v).port = s.port := rfl
@[simp] theorem State.setPhase_media (s : State) (v) : (s.setPhase v).media = s.media := rfl
@[simp] theorem State.setPhase_pending (s : State) (v) : (s.setPhase v).pending = s.pending := rfl
@[simp] theorem State.setLoadNext_setLoadNext (s : State) (v w) : (s.setLoadNext v).setLoadNext w = s.setLoadNext w := rfl
@[simp] theorem State.setLoadNext_phase (s : State) (v) : (s.setLoadNext v).phase = s.phase := rfl
@[simp] theorem State.setLoadNext_loadNext (s : State) (v) : (s.setLoadNext v).loadNext = v := rfl
@[simp] theorem State.setLoadNext_link (s : State) (v) : (s.setLoadNext v).link = s.link := rfl
@[simp] theorem State.setLoadNext_ops (s : State) (v) : (s.setLoadNext v).ops = s.ops := rfl
@[simp] theorem State.setLoadNext_stamps (s : State) (v) : (s.setLoadNext v).stamps = s.stamps := rfl
@[simp] theorem State.setLoadNext_linkOut (s : State) (v) : (s.setLoadNext v).linkOut = s.linkOut := rfl
@[simp] theorem State.setLoadNext_table (s : State) (v) : (s.setLoadNext v).table = s.table := rfl
@[simp] theorem State.setLoadNext_wbQueue (s : State) (v) : (s.setLoadNext v).wbQueue = s.wbQueue := rfl
@[simp] theorem State.setLoadNext_verifyQueue (s : State) (v) : (s.setLoadNext v).verifyQueue = s.verifyQueue := rfl
@[simp] theorem State.setLoadNext_patrol (s : State) (v) : (s.setLoadNext v).patrol = s.patrol := rfl
@[simp] theorem State.setLoadNext_quiet (s : State) (v) : (s.setLoadNext v).quiet = s.quiet := rfl
@[simp] theorem State.setLoadNext_hold (s : State) (v) : (s.setLoadNext v).hold = s.hold := rfl
@[simp] theorem State.setLoadNext_slot (s : State) (v) : (s.setLoadNext v).slot = s.slot := rfl
@[simp] theorem State.setLoadNext_spares (s : State) (v) : (s.setLoadNext v).spares = s.spares := rfl
@[simp] theorem State.setLoadNext_queue (s : State) (v) : (s.setLoadNext v).queue = s.queue := rfl
@[simp] theorem State.setLoadNext_engine (s : State) (v) : (s.setLoadNext v).engine = s.engine := rfl
@[simp] theorem State.setLoadNext_store (s : State) (v) : (s.setLoadNext v).store = s.store := rfl
@[simp] theorem State.setLoadNext_persist (s : State) (v) : (s.setLoadNext v).persist = s.persist := rfl
@[simp] theorem State.setLoadNext_params (s : State) (v) : (s.setLoadNext v).params = s.params := rfl
@[simp] theorem State.setLoadNext_counters (s : State) (v) : (s.setLoadNext v).counters = s.counters := rfl
@[simp] theorem State.setLoadNext_attn (s : State) (v) : (s.setLoadNext v).attn = s.attn := rfl
@[simp] theorem State.setLoadNext_port (s : State) (v) : (s.setLoadNext v).port = s.port := rfl
@[simp] theorem State.setLoadNext_media (s : State) (v) : (s.setLoadNext v).media = s.media := rfl
@[simp] theorem State.setLoadNext_pending (s : State) (v) : (s.setLoadNext v).pending = s.pending := rfl
@[simp] theorem State.setLink_setLink (s : State) (v w) : (s.setLink v).setLink w = s.setLink w := rfl
@[simp] theorem State.setLink_phase (s : State) (v) : (s.setLink v).phase = s.phase := rfl
@[simp] theorem State.setLink_loadNext (s : State) (v) : (s.setLink v).loadNext = s.loadNext := rfl
@[simp] theorem State.setLink_link (s : State) (v) : (s.setLink v).link = v := rfl
@[simp] theorem State.setLink_ops (s : State) (v) : (s.setLink v).ops = s.ops := rfl
@[simp] theorem State.setLink_stamps (s : State) (v) : (s.setLink v).stamps = s.stamps := rfl
@[simp] theorem State.setLink_linkOut (s : State) (v) : (s.setLink v).linkOut = s.linkOut := rfl
@[simp] theorem State.setLink_table (s : State) (v) : (s.setLink v).table = s.table := rfl
@[simp] theorem State.setLink_wbQueue (s : State) (v) : (s.setLink v).wbQueue = s.wbQueue := rfl
@[simp] theorem State.setLink_verifyQueue (s : State) (v) : (s.setLink v).verifyQueue = s.verifyQueue := rfl
@[simp] theorem State.setLink_patrol (s : State) (v) : (s.setLink v).patrol = s.patrol := rfl
@[simp] theorem State.setLink_quiet (s : State) (v) : (s.setLink v).quiet = s.quiet := rfl
@[simp] theorem State.setLink_hold (s : State) (v) : (s.setLink v).hold = s.hold := rfl
@[simp] theorem State.setLink_slot (s : State) (v) : (s.setLink v).slot = s.slot := rfl
@[simp] theorem State.setLink_spares (s : State) (v) : (s.setLink v).spares = s.spares := rfl
@[simp] theorem State.setLink_queue (s : State) (v) : (s.setLink v).queue = s.queue := rfl
@[simp] theorem State.setLink_engine (s : State) (v) : (s.setLink v).engine = s.engine := rfl
@[simp] theorem State.setLink_store (s : State) (v) : (s.setLink v).store = s.store := rfl
@[simp] theorem State.setLink_persist (s : State) (v) : (s.setLink v).persist = s.persist := rfl
@[simp] theorem State.setLink_params (s : State) (v) : (s.setLink v).params = s.params := rfl
@[simp] theorem State.setLink_counters (s : State) (v) : (s.setLink v).counters = s.counters := rfl
@[simp] theorem State.setLink_attn (s : State) (v) : (s.setLink v).attn = s.attn := rfl
@[simp] theorem State.setLink_port (s : State) (v) : (s.setLink v).port = s.port := rfl
@[simp] theorem State.setLink_media (s : State) (v) : (s.setLink v).media = s.media := rfl
@[simp] theorem State.setLink_pending (s : State) (v) : (s.setLink v).pending = s.pending := rfl
@[simp] theorem State.setOps_setOps (s : State) (v w) : (s.setOps v).setOps w = s.setOps w := rfl
@[simp] theorem State.setOps_phase (s : State) (v) : (s.setOps v).phase = s.phase := rfl
@[simp] theorem State.setOps_loadNext (s : State) (v) : (s.setOps v).loadNext = s.loadNext := rfl
@[simp] theorem State.setOps_link (s : State) (v) : (s.setOps v).link = s.link := rfl
@[simp] theorem State.setOps_ops (s : State) (v) : (s.setOps v).ops = v := rfl
@[simp] theorem State.setOps_stamps (s : State) (v) : (s.setOps v).stamps = s.stamps := rfl
@[simp] theorem State.setOps_linkOut (s : State) (v) : (s.setOps v).linkOut = s.linkOut := rfl
@[simp] theorem State.setOps_table (s : State) (v) : (s.setOps v).table = s.table := rfl
@[simp] theorem State.setOps_wbQueue (s : State) (v) : (s.setOps v).wbQueue = s.wbQueue := rfl
@[simp] theorem State.setOps_verifyQueue (s : State) (v) : (s.setOps v).verifyQueue = s.verifyQueue := rfl
@[simp] theorem State.setOps_patrol (s : State) (v) : (s.setOps v).patrol = s.patrol := rfl
@[simp] theorem State.setOps_quiet (s : State) (v) : (s.setOps v).quiet = s.quiet := rfl
@[simp] theorem State.setOps_hold (s : State) (v) : (s.setOps v).hold = s.hold := rfl
@[simp] theorem State.setOps_slot (s : State) (v) : (s.setOps v).slot = s.slot := rfl
@[simp] theorem State.setOps_spares (s : State) (v) : (s.setOps v).spares = s.spares := rfl
@[simp] theorem State.setOps_queue (s : State) (v) : (s.setOps v).queue = s.queue := rfl
@[simp] theorem State.setOps_engine (s : State) (v) : (s.setOps v).engine = s.engine := rfl
@[simp] theorem State.setOps_store (s : State) (v) : (s.setOps v).store = s.store := rfl
@[simp] theorem State.setOps_persist (s : State) (v) : (s.setOps v).persist = s.persist := rfl
@[simp] theorem State.setOps_params (s : State) (v) : (s.setOps v).params = s.params := rfl
@[simp] theorem State.setOps_counters (s : State) (v) : (s.setOps v).counters = s.counters := rfl
@[simp] theorem State.setOps_attn (s : State) (v) : (s.setOps v).attn = s.attn := rfl
@[simp] theorem State.setOps_port (s : State) (v) : (s.setOps v).port = s.port := rfl
@[simp] theorem State.setOps_media (s : State) (v) : (s.setOps v).media = s.media := rfl
@[simp] theorem State.setOps_pending (s : State) (v) : (s.setOps v).pending = s.pending := rfl
@[simp] theorem State.setStamps_setStamps (s : State) (v w) : (s.setStamps v).setStamps w = s.setStamps w := rfl
@[simp] theorem State.setStamps_phase (s : State) (v) : (s.setStamps v).phase = s.phase := rfl
@[simp] theorem State.setStamps_loadNext (s : State) (v) : (s.setStamps v).loadNext = s.loadNext := rfl
@[simp] theorem State.setStamps_link (s : State) (v) : (s.setStamps v).link = s.link := rfl
@[simp] theorem State.setStamps_ops (s : State) (v) : (s.setStamps v).ops = s.ops := rfl
@[simp] theorem State.setStamps_stamps (s : State) (v) : (s.setStamps v).stamps = v := rfl
@[simp] theorem State.setStamps_linkOut (s : State) (v) : (s.setStamps v).linkOut = s.linkOut := rfl
@[simp] theorem State.setStamps_table (s : State) (v) : (s.setStamps v).table = s.table := rfl
@[simp] theorem State.setStamps_wbQueue (s : State) (v) : (s.setStamps v).wbQueue = s.wbQueue := rfl
@[simp] theorem State.setStamps_verifyQueue (s : State) (v) : (s.setStamps v).verifyQueue = s.verifyQueue := rfl
@[simp] theorem State.setStamps_patrol (s : State) (v) : (s.setStamps v).patrol = s.patrol := rfl
@[simp] theorem State.setStamps_quiet (s : State) (v) : (s.setStamps v).quiet = s.quiet := rfl
@[simp] theorem State.setStamps_hold (s : State) (v) : (s.setStamps v).hold = s.hold := rfl
@[simp] theorem State.setStamps_slot (s : State) (v) : (s.setStamps v).slot = s.slot := rfl
@[simp] theorem State.setStamps_spares (s : State) (v) : (s.setStamps v).spares = s.spares := rfl
@[simp] theorem State.setStamps_queue (s : State) (v) : (s.setStamps v).queue = s.queue := rfl
@[simp] theorem State.setStamps_engine (s : State) (v) : (s.setStamps v).engine = s.engine := rfl
@[simp] theorem State.setStamps_store (s : State) (v) : (s.setStamps v).store = s.store := rfl
@[simp] theorem State.setStamps_persist (s : State) (v) : (s.setStamps v).persist = s.persist := rfl
@[simp] theorem State.setStamps_params (s : State) (v) : (s.setStamps v).params = s.params := rfl
@[simp] theorem State.setStamps_counters (s : State) (v) : (s.setStamps v).counters = s.counters := rfl
@[simp] theorem State.setStamps_attn (s : State) (v) : (s.setStamps v).attn = s.attn := rfl
@[simp] theorem State.setStamps_port (s : State) (v) : (s.setStamps v).port = s.port := rfl
@[simp] theorem State.setStamps_media (s : State) (v) : (s.setStamps v).media = s.media := rfl
@[simp] theorem State.setStamps_pending (s : State) (v) : (s.setStamps v).pending = s.pending := rfl
@[simp] theorem State.setLinkOut_setLinkOut (s : State) (v w) : (s.setLinkOut v).setLinkOut w = s.setLinkOut w := rfl
@[simp] theorem State.setLinkOut_phase (s : State) (v) : (s.setLinkOut v).phase = s.phase := rfl
@[simp] theorem State.setLinkOut_loadNext (s : State) (v) : (s.setLinkOut v).loadNext = s.loadNext := rfl
@[simp] theorem State.setLinkOut_link (s : State) (v) : (s.setLinkOut v).link = s.link := rfl
@[simp] theorem State.setLinkOut_ops (s : State) (v) : (s.setLinkOut v).ops = s.ops := rfl
@[simp] theorem State.setLinkOut_stamps (s : State) (v) : (s.setLinkOut v).stamps = s.stamps := rfl
@[simp] theorem State.setLinkOut_linkOut (s : State) (v) : (s.setLinkOut v).linkOut = v := rfl
@[simp] theorem State.setLinkOut_table (s : State) (v) : (s.setLinkOut v).table = s.table := rfl
@[simp] theorem State.setLinkOut_wbQueue (s : State) (v) : (s.setLinkOut v).wbQueue = s.wbQueue := rfl
@[simp] theorem State.setLinkOut_verifyQueue (s : State) (v) : (s.setLinkOut v).verifyQueue = s.verifyQueue := rfl
@[simp] theorem State.setLinkOut_patrol (s : State) (v) : (s.setLinkOut v).patrol = s.patrol := rfl
@[simp] theorem State.setLinkOut_quiet (s : State) (v) : (s.setLinkOut v).quiet = s.quiet := rfl
@[simp] theorem State.setLinkOut_hold (s : State) (v) : (s.setLinkOut v).hold = s.hold := rfl
@[simp] theorem State.setLinkOut_slot (s : State) (v) : (s.setLinkOut v).slot = s.slot := rfl
@[simp] theorem State.setLinkOut_spares (s : State) (v) : (s.setLinkOut v).spares = s.spares := rfl
@[simp] theorem State.setLinkOut_queue (s : State) (v) : (s.setLinkOut v).queue = s.queue := rfl
@[simp] theorem State.setLinkOut_engine (s : State) (v) : (s.setLinkOut v).engine = s.engine := rfl
@[simp] theorem State.setLinkOut_store (s : State) (v) : (s.setLinkOut v).store = s.store := rfl
@[simp] theorem State.setLinkOut_persist (s : State) (v) : (s.setLinkOut v).persist = s.persist := rfl
@[simp] theorem State.setLinkOut_params (s : State) (v) : (s.setLinkOut v).params = s.params := rfl
@[simp] theorem State.setLinkOut_counters (s : State) (v) : (s.setLinkOut v).counters = s.counters := rfl
@[simp] theorem State.setLinkOut_attn (s : State) (v) : (s.setLinkOut v).attn = s.attn := rfl
@[simp] theorem State.setLinkOut_port (s : State) (v) : (s.setLinkOut v).port = s.port := rfl
@[simp] theorem State.setLinkOut_media (s : State) (v) : (s.setLinkOut v).media = s.media := rfl
@[simp] theorem State.setLinkOut_pending (s : State) (v) : (s.setLinkOut v).pending = s.pending := rfl
@[simp] theorem State.setTable_setTable (s : State) (v w) : (s.setTable v).setTable w = s.setTable w := rfl
@[simp] theorem State.setTable_phase (s : State) (v) : (s.setTable v).phase = s.phase := rfl
@[simp] theorem State.setTable_loadNext (s : State) (v) : (s.setTable v).loadNext = s.loadNext := rfl
@[simp] theorem State.setTable_link (s : State) (v) : (s.setTable v).link = s.link := rfl
@[simp] theorem State.setTable_ops (s : State) (v) : (s.setTable v).ops = s.ops := rfl
@[simp] theorem State.setTable_stamps (s : State) (v) : (s.setTable v).stamps = s.stamps := rfl
@[simp] theorem State.setTable_linkOut (s : State) (v) : (s.setTable v).linkOut = s.linkOut := rfl
@[simp] theorem State.setTable_table (s : State) (v) : (s.setTable v).table = v := rfl
@[simp] theorem State.setTable_wbQueue (s : State) (v) : (s.setTable v).wbQueue = s.wbQueue := rfl
@[simp] theorem State.setTable_verifyQueue (s : State) (v) : (s.setTable v).verifyQueue = s.verifyQueue := rfl
@[simp] theorem State.setTable_patrol (s : State) (v) : (s.setTable v).patrol = s.patrol := rfl
@[simp] theorem State.setTable_quiet (s : State) (v) : (s.setTable v).quiet = s.quiet := rfl
@[simp] theorem State.setTable_hold (s : State) (v) : (s.setTable v).hold = s.hold := rfl
@[simp] theorem State.setTable_slot (s : State) (v) : (s.setTable v).slot = s.slot := rfl
@[simp] theorem State.setTable_spares (s : State) (v) : (s.setTable v).spares = s.spares := rfl
@[simp] theorem State.setTable_queue (s : State) (v) : (s.setTable v).queue = s.queue := rfl
@[simp] theorem State.setTable_engine (s : State) (v) : (s.setTable v).engine = s.engine := rfl
@[simp] theorem State.setTable_store (s : State) (v) : (s.setTable v).store = s.store := rfl
@[simp] theorem State.setTable_persist (s : State) (v) : (s.setTable v).persist = s.persist := rfl
@[simp] theorem State.setTable_params (s : State) (v) : (s.setTable v).params = s.params := rfl
@[simp] theorem State.setTable_counters (s : State) (v) : (s.setTable v).counters = s.counters := rfl
@[simp] theorem State.setTable_attn (s : State) (v) : (s.setTable v).attn = s.attn := rfl
@[simp] theorem State.setTable_port (s : State) (v) : (s.setTable v).port = s.port := rfl
@[simp] theorem State.setTable_media (s : State) (v) : (s.setTable v).media = s.media := rfl
@[simp] theorem State.setTable_pending (s : State) (v) : (s.setTable v).pending = s.pending := rfl
@[simp] theorem State.setWbQueue_setWbQueue (s : State) (v w) : (s.setWbQueue v).setWbQueue w = s.setWbQueue w := rfl
@[simp] theorem State.setWbQueue_phase (s : State) (v) : (s.setWbQueue v).phase = s.phase := rfl
@[simp] theorem State.setWbQueue_loadNext (s : State) (v) : (s.setWbQueue v).loadNext = s.loadNext := rfl
@[simp] theorem State.setWbQueue_link (s : State) (v) : (s.setWbQueue v).link = s.link := rfl
@[simp] theorem State.setWbQueue_ops (s : State) (v) : (s.setWbQueue v).ops = s.ops := rfl
@[simp] theorem State.setWbQueue_stamps (s : State) (v) : (s.setWbQueue v).stamps = s.stamps := rfl
@[simp] theorem State.setWbQueue_linkOut (s : State) (v) : (s.setWbQueue v).linkOut = s.linkOut := rfl
@[simp] theorem State.setWbQueue_table (s : State) (v) : (s.setWbQueue v).table = s.table := rfl
@[simp] theorem State.setWbQueue_wbQueue (s : State) (v) : (s.setWbQueue v).wbQueue = v := rfl
@[simp] theorem State.setWbQueue_verifyQueue (s : State) (v) : (s.setWbQueue v).verifyQueue = s.verifyQueue := rfl
@[simp] theorem State.setWbQueue_patrol (s : State) (v) : (s.setWbQueue v).patrol = s.patrol := rfl
@[simp] theorem State.setWbQueue_quiet (s : State) (v) : (s.setWbQueue v).quiet = s.quiet := rfl
@[simp] theorem State.setWbQueue_hold (s : State) (v) : (s.setWbQueue v).hold = s.hold := rfl
@[simp] theorem State.setWbQueue_slot (s : State) (v) : (s.setWbQueue v).slot = s.slot := rfl
@[simp] theorem State.setWbQueue_spares (s : State) (v) : (s.setWbQueue v).spares = s.spares := rfl
@[simp] theorem State.setWbQueue_queue (s : State) (v) : (s.setWbQueue v).queue = s.queue := rfl
@[simp] theorem State.setWbQueue_engine (s : State) (v) : (s.setWbQueue v).engine = s.engine := rfl
@[simp] theorem State.setWbQueue_store (s : State) (v) : (s.setWbQueue v).store = s.store := rfl
@[simp] theorem State.setWbQueue_persist (s : State) (v) : (s.setWbQueue v).persist = s.persist := rfl
@[simp] theorem State.setWbQueue_params (s : State) (v) : (s.setWbQueue v).params = s.params := rfl
@[simp] theorem State.setWbQueue_counters (s : State) (v) : (s.setWbQueue v).counters = s.counters := rfl
@[simp] theorem State.setWbQueue_attn (s : State) (v) : (s.setWbQueue v).attn = s.attn := rfl
@[simp] theorem State.setWbQueue_port (s : State) (v) : (s.setWbQueue v).port = s.port := rfl
@[simp] theorem State.setWbQueue_media (s : State) (v) : (s.setWbQueue v).media = s.media := rfl
@[simp] theorem State.setWbQueue_pending (s : State) (v) : (s.setWbQueue v).pending = s.pending := rfl
@[simp] theorem State.setVerifyQueue_setVerifyQueue (s : State) (v w) : (s.setVerifyQueue v).setVerifyQueue w = s.setVerifyQueue w := rfl
@[simp] theorem State.setVerifyQueue_phase (s : State) (v) : (s.setVerifyQueue v).phase = s.phase := rfl
@[simp] theorem State.setVerifyQueue_loadNext (s : State) (v) : (s.setVerifyQueue v).loadNext = s.loadNext := rfl
@[simp] theorem State.setVerifyQueue_link (s : State) (v) : (s.setVerifyQueue v).link = s.link := rfl
@[simp] theorem State.setVerifyQueue_ops (s : State) (v) : (s.setVerifyQueue v).ops = s.ops := rfl
@[simp] theorem State.setVerifyQueue_stamps (s : State) (v) : (s.setVerifyQueue v).stamps = s.stamps := rfl
@[simp] theorem State.setVerifyQueue_linkOut (s : State) (v) : (s.setVerifyQueue v).linkOut = s.linkOut := rfl
@[simp] theorem State.setVerifyQueue_table (s : State) (v) : (s.setVerifyQueue v).table = s.table := rfl
@[simp] theorem State.setVerifyQueue_wbQueue (s : State) (v) : (s.setVerifyQueue v).wbQueue = s.wbQueue := rfl
@[simp] theorem State.setVerifyQueue_verifyQueue (s : State) (v) : (s.setVerifyQueue v).verifyQueue = v := rfl
@[simp] theorem State.setVerifyQueue_patrol (s : State) (v) : (s.setVerifyQueue v).patrol = s.patrol := rfl
@[simp] theorem State.setVerifyQueue_quiet (s : State) (v) : (s.setVerifyQueue v).quiet = s.quiet := rfl
@[simp] theorem State.setVerifyQueue_hold (s : State) (v) : (s.setVerifyQueue v).hold = s.hold := rfl
@[simp] theorem State.setVerifyQueue_slot (s : State) (v) : (s.setVerifyQueue v).slot = s.slot := rfl
@[simp] theorem State.setVerifyQueue_spares (s : State) (v) : (s.setVerifyQueue v).spares = s.spares := rfl
@[simp] theorem State.setVerifyQueue_queue (s : State) (v) : (s.setVerifyQueue v).queue = s.queue := rfl
@[simp] theorem State.setVerifyQueue_engine (s : State) (v) : (s.setVerifyQueue v).engine = s.engine := rfl
@[simp] theorem State.setVerifyQueue_store (s : State) (v) : (s.setVerifyQueue v).store = s.store := rfl
@[simp] theorem State.setVerifyQueue_persist (s : State) (v) : (s.setVerifyQueue v).persist = s.persist := rfl
@[simp] theorem State.setVerifyQueue_params (s : State) (v) : (s.setVerifyQueue v).params = s.params := rfl
@[simp] theorem State.setVerifyQueue_counters (s : State) (v) : (s.setVerifyQueue v).counters = s.counters := rfl
@[simp] theorem State.setVerifyQueue_attn (s : State) (v) : (s.setVerifyQueue v).attn = s.attn := rfl
@[simp] theorem State.setVerifyQueue_port (s : State) (v) : (s.setVerifyQueue v).port = s.port := rfl
@[simp] theorem State.setVerifyQueue_media (s : State) (v) : (s.setVerifyQueue v).media = s.media := rfl
@[simp] theorem State.setVerifyQueue_pending (s : State) (v) : (s.setVerifyQueue v).pending = s.pending := rfl
@[simp] theorem State.setPatrol_setPatrol (s : State) (v w) : (s.setPatrol v).setPatrol w = s.setPatrol w := rfl
@[simp] theorem State.setPatrol_phase (s : State) (v) : (s.setPatrol v).phase = s.phase := rfl
@[simp] theorem State.setPatrol_loadNext (s : State) (v) : (s.setPatrol v).loadNext = s.loadNext := rfl
@[simp] theorem State.setPatrol_link (s : State) (v) : (s.setPatrol v).link = s.link := rfl
@[simp] theorem State.setPatrol_ops (s : State) (v) : (s.setPatrol v).ops = s.ops := rfl
@[simp] theorem State.setPatrol_stamps (s : State) (v) : (s.setPatrol v).stamps = s.stamps := rfl
@[simp] theorem State.setPatrol_linkOut (s : State) (v) : (s.setPatrol v).linkOut = s.linkOut := rfl
@[simp] theorem State.setPatrol_table (s : State) (v) : (s.setPatrol v).table = s.table := rfl
@[simp] theorem State.setPatrol_wbQueue (s : State) (v) : (s.setPatrol v).wbQueue = s.wbQueue := rfl
@[simp] theorem State.setPatrol_verifyQueue (s : State) (v) : (s.setPatrol v).verifyQueue = s.verifyQueue := rfl
@[simp] theorem State.setPatrol_patrol (s : State) (v) : (s.setPatrol v).patrol = v := rfl
@[simp] theorem State.setPatrol_quiet (s : State) (v) : (s.setPatrol v).quiet = s.quiet := rfl
@[simp] theorem State.setPatrol_hold (s : State) (v) : (s.setPatrol v).hold = s.hold := rfl
@[simp] theorem State.setPatrol_slot (s : State) (v) : (s.setPatrol v).slot = s.slot := rfl
@[simp] theorem State.setPatrol_spares (s : State) (v) : (s.setPatrol v).spares = s.spares := rfl
@[simp] theorem State.setPatrol_queue (s : State) (v) : (s.setPatrol v).queue = s.queue := rfl
@[simp] theorem State.setPatrol_engine (s : State) (v) : (s.setPatrol v).engine = s.engine := rfl
@[simp] theorem State.setPatrol_store (s : State) (v) : (s.setPatrol v).store = s.store := rfl
@[simp] theorem State.setPatrol_persist (s : State) (v) : (s.setPatrol v).persist = s.persist := rfl
@[simp] theorem State.setPatrol_params (s : State) (v) : (s.setPatrol v).params = s.params := rfl
@[simp] theorem State.setPatrol_counters (s : State) (v) : (s.setPatrol v).counters = s.counters := rfl
@[simp] theorem State.setPatrol_attn (s : State) (v) : (s.setPatrol v).attn = s.attn := rfl
@[simp] theorem State.setPatrol_port (s : State) (v) : (s.setPatrol v).port = s.port := rfl
@[simp] theorem State.setPatrol_media (s : State) (v) : (s.setPatrol v).media = s.media := rfl
@[simp] theorem State.setPatrol_pending (s : State) (v) : (s.setPatrol v).pending = s.pending := rfl
@[simp] theorem State.setQuiet_setQuiet (s : State) (v w) : (s.setQuiet v).setQuiet w = s.setQuiet w := rfl
@[simp] theorem State.setQuiet_phase (s : State) (v) : (s.setQuiet v).phase = s.phase := rfl
@[simp] theorem State.setQuiet_loadNext (s : State) (v) : (s.setQuiet v).loadNext = s.loadNext := rfl
@[simp] theorem State.setQuiet_link (s : State) (v) : (s.setQuiet v).link = s.link := rfl
@[simp] theorem State.setQuiet_ops (s : State) (v) : (s.setQuiet v).ops = s.ops := rfl
@[simp] theorem State.setQuiet_stamps (s : State) (v) : (s.setQuiet v).stamps = s.stamps := rfl
@[simp] theorem State.setQuiet_linkOut (s : State) (v) : (s.setQuiet v).linkOut = s.linkOut := rfl
@[simp] theorem State.setQuiet_table (s : State) (v) : (s.setQuiet v).table = s.table := rfl
@[simp] theorem State.setQuiet_wbQueue (s : State) (v) : (s.setQuiet v).wbQueue = s.wbQueue := rfl
@[simp] theorem State.setQuiet_verifyQueue (s : State) (v) : (s.setQuiet v).verifyQueue = s.verifyQueue := rfl
@[simp] theorem State.setQuiet_patrol (s : State) (v) : (s.setQuiet v).patrol = s.patrol := rfl
@[simp] theorem State.setQuiet_quiet (s : State) (v) : (s.setQuiet v).quiet = v := rfl
@[simp] theorem State.setQuiet_hold (s : State) (v) : (s.setQuiet v).hold = s.hold := rfl
@[simp] theorem State.setQuiet_slot (s : State) (v) : (s.setQuiet v).slot = s.slot := rfl
@[simp] theorem State.setQuiet_spares (s : State) (v) : (s.setQuiet v).spares = s.spares := rfl
@[simp] theorem State.setQuiet_queue (s : State) (v) : (s.setQuiet v).queue = s.queue := rfl
@[simp] theorem State.setQuiet_engine (s : State) (v) : (s.setQuiet v).engine = s.engine := rfl
@[simp] theorem State.setQuiet_store (s : State) (v) : (s.setQuiet v).store = s.store := rfl
@[simp] theorem State.setQuiet_persist (s : State) (v) : (s.setQuiet v).persist = s.persist := rfl
@[simp] theorem State.setQuiet_params (s : State) (v) : (s.setQuiet v).params = s.params := rfl
@[simp] theorem State.setQuiet_counters (s : State) (v) : (s.setQuiet v).counters = s.counters := rfl
@[simp] theorem State.setQuiet_attn (s : State) (v) : (s.setQuiet v).attn = s.attn := rfl
@[simp] theorem State.setQuiet_port (s : State) (v) : (s.setQuiet v).port = s.port := rfl
@[simp] theorem State.setQuiet_media (s : State) (v) : (s.setQuiet v).media = s.media := rfl
@[simp] theorem State.setQuiet_pending (s : State) (v) : (s.setQuiet v).pending = s.pending := rfl
@[simp] theorem State.setHold_setHold (s : State) (v w) : (s.setHold v).setHold w = s.setHold w := rfl
@[simp] theorem State.setHold_phase (s : State) (v) : (s.setHold v).phase = s.phase := rfl
@[simp] theorem State.setHold_loadNext (s : State) (v) : (s.setHold v).loadNext = s.loadNext := rfl
@[simp] theorem State.setHold_link (s : State) (v) : (s.setHold v).link = s.link := rfl
@[simp] theorem State.setHold_ops (s : State) (v) : (s.setHold v).ops = s.ops := rfl
@[simp] theorem State.setHold_stamps (s : State) (v) : (s.setHold v).stamps = s.stamps := rfl
@[simp] theorem State.setHold_linkOut (s : State) (v) : (s.setHold v).linkOut = s.linkOut := rfl
@[simp] theorem State.setHold_table (s : State) (v) : (s.setHold v).table = s.table := rfl
@[simp] theorem State.setHold_wbQueue (s : State) (v) : (s.setHold v).wbQueue = s.wbQueue := rfl
@[simp] theorem State.setHold_verifyQueue (s : State) (v) : (s.setHold v).verifyQueue = s.verifyQueue := rfl
@[simp] theorem State.setHold_patrol (s : State) (v) : (s.setHold v).patrol = s.patrol := rfl
@[simp] theorem State.setHold_quiet (s : State) (v) : (s.setHold v).quiet = s.quiet := rfl
@[simp] theorem State.setHold_hold (s : State) (v) : (s.setHold v).hold = v := rfl
@[simp] theorem State.setHold_slot (s : State) (v) : (s.setHold v).slot = s.slot := rfl
@[simp] theorem State.setHold_spares (s : State) (v) : (s.setHold v).spares = s.spares := rfl
@[simp] theorem State.setHold_queue (s : State) (v) : (s.setHold v).queue = s.queue := rfl
@[simp] theorem State.setHold_engine (s : State) (v) : (s.setHold v).engine = s.engine := rfl
@[simp] theorem State.setHold_store (s : State) (v) : (s.setHold v).store = s.store := rfl
@[simp] theorem State.setHold_persist (s : State) (v) : (s.setHold v).persist = s.persist := rfl
@[simp] theorem State.setHold_params (s : State) (v) : (s.setHold v).params = s.params := rfl
@[simp] theorem State.setHold_counters (s : State) (v) : (s.setHold v).counters = s.counters := rfl
@[simp] theorem State.setHold_attn (s : State) (v) : (s.setHold v).attn = s.attn := rfl
@[simp] theorem State.setHold_port (s : State) (v) : (s.setHold v).port = s.port := rfl
@[simp] theorem State.setHold_media (s : State) (v) : (s.setHold v).media = s.media := rfl
@[simp] theorem State.setHold_pending (s : State) (v) : (s.setHold v).pending = s.pending := rfl
@[simp] theorem State.setSlot_setSlot (s : State) (v w) : (s.setSlot v).setSlot w = s.setSlot w := rfl
@[simp] theorem State.setSlot_phase (s : State) (v) : (s.setSlot v).phase = s.phase := rfl
@[simp] theorem State.setSlot_loadNext (s : State) (v) : (s.setSlot v).loadNext = s.loadNext := rfl
@[simp] theorem State.setSlot_link (s : State) (v) : (s.setSlot v).link = s.link := rfl
@[simp] theorem State.setSlot_ops (s : State) (v) : (s.setSlot v).ops = s.ops := rfl
@[simp] theorem State.setSlot_stamps (s : State) (v) : (s.setSlot v).stamps = s.stamps := rfl
@[simp] theorem State.setSlot_linkOut (s : State) (v) : (s.setSlot v).linkOut = s.linkOut := rfl
@[simp] theorem State.setSlot_table (s : State) (v) : (s.setSlot v).table = s.table := rfl
@[simp] theorem State.setSlot_wbQueue (s : State) (v) : (s.setSlot v).wbQueue = s.wbQueue := rfl
@[simp] theorem State.setSlot_verifyQueue (s : State) (v) : (s.setSlot v).verifyQueue = s.verifyQueue := rfl
@[simp] theorem State.setSlot_patrol (s : State) (v) : (s.setSlot v).patrol = s.patrol := rfl
@[simp] theorem State.setSlot_quiet (s : State) (v) : (s.setSlot v).quiet = s.quiet := rfl
@[simp] theorem State.setSlot_hold (s : State) (v) : (s.setSlot v).hold = s.hold := rfl
@[simp] theorem State.setSlot_slot (s : State) (v) : (s.setSlot v).slot = v := rfl
@[simp] theorem State.setSlot_spares (s : State) (v) : (s.setSlot v).spares = s.spares := rfl
@[simp] theorem State.setSlot_queue (s : State) (v) : (s.setSlot v).queue = s.queue := rfl
@[simp] theorem State.setSlot_engine (s : State) (v) : (s.setSlot v).engine = s.engine := rfl
@[simp] theorem State.setSlot_store (s : State) (v) : (s.setSlot v).store = s.store := rfl
@[simp] theorem State.setSlot_persist (s : State) (v) : (s.setSlot v).persist = s.persist := rfl
@[simp] theorem State.setSlot_params (s : State) (v) : (s.setSlot v).params = s.params := rfl
@[simp] theorem State.setSlot_counters (s : State) (v) : (s.setSlot v).counters = s.counters := rfl
@[simp] theorem State.setSlot_attn (s : State) (v) : (s.setSlot v).attn = s.attn := rfl
@[simp] theorem State.setSlot_port (s : State) (v) : (s.setSlot v).port = s.port := rfl
@[simp] theorem State.setSlot_media (s : State) (v) : (s.setSlot v).media = s.media := rfl
@[simp] theorem State.setSlot_pending (s : State) (v) : (s.setSlot v).pending = s.pending := rfl
@[simp] theorem State.setSpares_setSpares (s : State) (v w) : (s.setSpares v).setSpares w = s.setSpares w := rfl
@[simp] theorem State.setSpares_phase (s : State) (v) : (s.setSpares v).phase = s.phase := rfl
@[simp] theorem State.setSpares_loadNext (s : State) (v) : (s.setSpares v).loadNext = s.loadNext := rfl
@[simp] theorem State.setSpares_link (s : State) (v) : (s.setSpares v).link = s.link := rfl
@[simp] theorem State.setSpares_ops (s : State) (v) : (s.setSpares v).ops = s.ops := rfl
@[simp] theorem State.setSpares_stamps (s : State) (v) : (s.setSpares v).stamps = s.stamps := rfl
@[simp] theorem State.setSpares_linkOut (s : State) (v) : (s.setSpares v).linkOut = s.linkOut := rfl
@[simp] theorem State.setSpares_table (s : State) (v) : (s.setSpares v).table = s.table := rfl
@[simp] theorem State.setSpares_wbQueue (s : State) (v) : (s.setSpares v).wbQueue = s.wbQueue := rfl
@[simp] theorem State.setSpares_verifyQueue (s : State) (v) : (s.setSpares v).verifyQueue = s.verifyQueue := rfl
@[simp] theorem State.setSpares_patrol (s : State) (v) : (s.setSpares v).patrol = s.patrol := rfl
@[simp] theorem State.setSpares_quiet (s : State) (v) : (s.setSpares v).quiet = s.quiet := rfl
@[simp] theorem State.setSpares_hold (s : State) (v) : (s.setSpares v).hold = s.hold := rfl
@[simp] theorem State.setSpares_slot (s : State) (v) : (s.setSpares v).slot = s.slot := rfl
@[simp] theorem State.setSpares_spares (s : State) (v) : (s.setSpares v).spares = v := rfl
@[simp] theorem State.setSpares_queue (s : State) (v) : (s.setSpares v).queue = s.queue := rfl
@[simp] theorem State.setSpares_engine (s : State) (v) : (s.setSpares v).engine = s.engine := rfl
@[simp] theorem State.setSpares_store (s : State) (v) : (s.setSpares v).store = s.store := rfl
@[simp] theorem State.setSpares_persist (s : State) (v) : (s.setSpares v).persist = s.persist := rfl
@[simp] theorem State.setSpares_params (s : State) (v) : (s.setSpares v).params = s.params := rfl
@[simp] theorem State.setSpares_counters (s : State) (v) : (s.setSpares v).counters = s.counters := rfl
@[simp] theorem State.setSpares_attn (s : State) (v) : (s.setSpares v).attn = s.attn := rfl
@[simp] theorem State.setSpares_port (s : State) (v) : (s.setSpares v).port = s.port := rfl
@[simp] theorem State.setSpares_media (s : State) (v) : (s.setSpares v).media = s.media := rfl
@[simp] theorem State.setSpares_pending (s : State) (v) : (s.setSpares v).pending = s.pending := rfl
@[simp] theorem State.setQueue_setQueue (s : State) (v w) : (s.setQueue v).setQueue w = s.setQueue w := rfl
@[simp] theorem State.setQueue_phase (s : State) (v) : (s.setQueue v).phase = s.phase := rfl
@[simp] theorem State.setQueue_loadNext (s : State) (v) : (s.setQueue v).loadNext = s.loadNext := rfl
@[simp] theorem State.setQueue_link (s : State) (v) : (s.setQueue v).link = s.link := rfl
@[simp] theorem State.setQueue_ops (s : State) (v) : (s.setQueue v).ops = s.ops := rfl
@[simp] theorem State.setQueue_stamps (s : State) (v) : (s.setQueue v).stamps = s.stamps := rfl
@[simp] theorem State.setQueue_linkOut (s : State) (v) : (s.setQueue v).linkOut = s.linkOut := rfl
@[simp] theorem State.setQueue_table (s : State) (v) : (s.setQueue v).table = s.table := rfl
@[simp] theorem State.setQueue_wbQueue (s : State) (v) : (s.setQueue v).wbQueue = s.wbQueue := rfl
@[simp] theorem State.setQueue_verifyQueue (s : State) (v) : (s.setQueue v).verifyQueue = s.verifyQueue := rfl
@[simp] theorem State.setQueue_patrol (s : State) (v) : (s.setQueue v).patrol = s.patrol := rfl
@[simp] theorem State.setQueue_quiet (s : State) (v) : (s.setQueue v).quiet = s.quiet := rfl
@[simp] theorem State.setQueue_hold (s : State) (v) : (s.setQueue v).hold = s.hold := rfl
@[simp] theorem State.setQueue_slot (s : State) (v) : (s.setQueue v).slot = s.slot := rfl
@[simp] theorem State.setQueue_spares (s : State) (v) : (s.setQueue v).spares = s.spares := rfl
@[simp] theorem State.setQueue_queue (s : State) (v) : (s.setQueue v).queue = v := rfl
@[simp] theorem State.setQueue_engine (s : State) (v) : (s.setQueue v).engine = s.engine := rfl
@[simp] theorem State.setQueue_store (s : State) (v) : (s.setQueue v).store = s.store := rfl
@[simp] theorem State.setQueue_persist (s : State) (v) : (s.setQueue v).persist = s.persist := rfl
@[simp] theorem State.setQueue_params (s : State) (v) : (s.setQueue v).params = s.params := rfl
@[simp] theorem State.setQueue_counters (s : State) (v) : (s.setQueue v).counters = s.counters := rfl
@[simp] theorem State.setQueue_attn (s : State) (v) : (s.setQueue v).attn = s.attn := rfl
@[simp] theorem State.setQueue_port (s : State) (v) : (s.setQueue v).port = s.port := rfl
@[simp] theorem State.setQueue_media (s : State) (v) : (s.setQueue v).media = s.media := rfl
@[simp] theorem State.setQueue_pending (s : State) (v) : (s.setQueue v).pending = s.pending := rfl
@[simp] theorem State.setEngine_setEngine (s : State) (v w) : (s.setEngine v).setEngine w = s.setEngine w := rfl
@[simp] theorem State.setEngine_phase (s : State) (v) : (s.setEngine v).phase = s.phase := rfl
@[simp] theorem State.setEngine_loadNext (s : State) (v) : (s.setEngine v).loadNext = s.loadNext := rfl
@[simp] theorem State.setEngine_link (s : State) (v) : (s.setEngine v).link = s.link := rfl
@[simp] theorem State.setEngine_ops (s : State) (v) : (s.setEngine v).ops = s.ops := rfl
@[simp] theorem State.setEngine_stamps (s : State) (v) : (s.setEngine v).stamps = s.stamps := rfl
@[simp] theorem State.setEngine_linkOut (s : State) (v) : (s.setEngine v).linkOut = s.linkOut := rfl
@[simp] theorem State.setEngine_table (s : State) (v) : (s.setEngine v).table = s.table := rfl
@[simp] theorem State.setEngine_wbQueue (s : State) (v) : (s.setEngine v).wbQueue = s.wbQueue := rfl
@[simp] theorem State.setEngine_verifyQueue (s : State) (v) : (s.setEngine v).verifyQueue = s.verifyQueue := rfl
@[simp] theorem State.setEngine_patrol (s : State) (v) : (s.setEngine v).patrol = s.patrol := rfl
@[simp] theorem State.setEngine_quiet (s : State) (v) : (s.setEngine v).quiet = s.quiet := rfl
@[simp] theorem State.setEngine_hold (s : State) (v) : (s.setEngine v).hold = s.hold := rfl
@[simp] theorem State.setEngine_slot (s : State) (v) : (s.setEngine v).slot = s.slot := rfl
@[simp] theorem State.setEngine_spares (s : State) (v) : (s.setEngine v).spares = s.spares := rfl
@[simp] theorem State.setEngine_queue (s : State) (v) : (s.setEngine v).queue = s.queue := rfl
@[simp] theorem State.setEngine_engine (s : State) (v) : (s.setEngine v).engine = v := rfl
@[simp] theorem State.setEngine_store (s : State) (v) : (s.setEngine v).store = s.store := rfl
@[simp] theorem State.setEngine_persist (s : State) (v) : (s.setEngine v).persist = s.persist := rfl
@[simp] theorem State.setEngine_params (s : State) (v) : (s.setEngine v).params = s.params := rfl
@[simp] theorem State.setEngine_counters (s : State) (v) : (s.setEngine v).counters = s.counters := rfl
@[simp] theorem State.setEngine_attn (s : State) (v) : (s.setEngine v).attn = s.attn := rfl
@[simp] theorem State.setEngine_port (s : State) (v) : (s.setEngine v).port = s.port := rfl
@[simp] theorem State.setEngine_media (s : State) (v) : (s.setEngine v).media = s.media := rfl
@[simp] theorem State.setEngine_pending (s : State) (v) : (s.setEngine v).pending = s.pending := rfl
@[simp] theorem State.setStore_setStore (s : State) (v w) : (s.setStore v).setStore w = s.setStore w := rfl
@[simp] theorem State.setStore_phase (s : State) (v) : (s.setStore v).phase = s.phase := rfl
@[simp] theorem State.setStore_loadNext (s : State) (v) : (s.setStore v).loadNext = s.loadNext := rfl
@[simp] theorem State.setStore_link (s : State) (v) : (s.setStore v).link = s.link := rfl
@[simp] theorem State.setStore_ops (s : State) (v) : (s.setStore v).ops = s.ops := rfl
@[simp] theorem State.setStore_stamps (s : State) (v) : (s.setStore v).stamps = s.stamps := rfl
@[simp] theorem State.setStore_linkOut (s : State) (v) : (s.setStore v).linkOut = s.linkOut := rfl
@[simp] theorem State.setStore_table (s : State) (v) : (s.setStore v).table = s.table := rfl
@[simp] theorem State.setStore_wbQueue (s : State) (v) : (s.setStore v).wbQueue = s.wbQueue := rfl
@[simp] theorem State.setStore_verifyQueue (s : State) (v) : (s.setStore v).verifyQueue = s.verifyQueue := rfl
@[simp] theorem State.setStore_patrol (s : State) (v) : (s.setStore v).patrol = s.patrol := rfl
@[simp] theorem State.setStore_quiet (s : State) (v) : (s.setStore v).quiet = s.quiet := rfl
@[simp] theorem State.setStore_hold (s : State) (v) : (s.setStore v).hold = s.hold := rfl
@[simp] theorem State.setStore_slot (s : State) (v) : (s.setStore v).slot = s.slot := rfl
@[simp] theorem State.setStore_spares (s : State) (v) : (s.setStore v).spares = s.spares := rfl
@[simp] theorem State.setStore_queue (s : State) (v) : (s.setStore v).queue = s.queue := rfl
@[simp] theorem State.setStore_engine (s : State) (v) : (s.setStore v).engine = s.engine := rfl
@[simp] theorem State.setStore_store (s : State) (v) : (s.setStore v).store = v := rfl
@[simp] theorem State.setStore_persist (s : State) (v) : (s.setStore v).persist = s.persist := rfl
@[simp] theorem State.setStore_params (s : State) (v) : (s.setStore v).params = s.params := rfl
@[simp] theorem State.setStore_counters (s : State) (v) : (s.setStore v).counters = s.counters := rfl
@[simp] theorem State.setStore_attn (s : State) (v) : (s.setStore v).attn = s.attn := rfl
@[simp] theorem State.setStore_port (s : State) (v) : (s.setStore v).port = s.port := rfl
@[simp] theorem State.setStore_media (s : State) (v) : (s.setStore v).media = s.media := rfl
@[simp] theorem State.setStore_pending (s : State) (v) : (s.setStore v).pending = s.pending := rfl
@[simp] theorem State.setPersist_setPersist (s : State) (v w) : (s.setPersist v).setPersist w = s.setPersist w := rfl
@[simp] theorem State.setPersist_phase (s : State) (v) : (s.setPersist v).phase = s.phase := rfl
@[simp] theorem State.setPersist_loadNext (s : State) (v) : (s.setPersist v).loadNext = s.loadNext := rfl
@[simp] theorem State.setPersist_link (s : State) (v) : (s.setPersist v).link = s.link := rfl
@[simp] theorem State.setPersist_ops (s : State) (v) : (s.setPersist v).ops = s.ops := rfl
@[simp] theorem State.setPersist_stamps (s : State) (v) : (s.setPersist v).stamps = s.stamps := rfl
@[simp] theorem State.setPersist_linkOut (s : State) (v) : (s.setPersist v).linkOut = s.linkOut := rfl
@[simp] theorem State.setPersist_table (s : State) (v) : (s.setPersist v).table = s.table := rfl
@[simp] theorem State.setPersist_wbQueue (s : State) (v) : (s.setPersist v).wbQueue = s.wbQueue := rfl
@[simp] theorem State.setPersist_verifyQueue (s : State) (v) : (s.setPersist v).verifyQueue = s.verifyQueue := rfl
@[simp] theorem State.setPersist_patrol (s : State) (v) : (s.setPersist v).patrol = s.patrol := rfl
@[simp] theorem State.setPersist_quiet (s : State) (v) : (s.setPersist v).quiet = s.quiet := rfl
@[simp] theorem State.setPersist_hold (s : State) (v) : (s.setPersist v).hold = s.hold := rfl
@[simp] theorem State.setPersist_slot (s : State) (v) : (s.setPersist v).slot = s.slot := rfl
@[simp] theorem State.setPersist_spares (s : State) (v) : (s.setPersist v).spares = s.spares := rfl
@[simp] theorem State.setPersist_queue (s : State) (v) : (s.setPersist v).queue = s.queue := rfl
@[simp] theorem State.setPersist_engine (s : State) (v) : (s.setPersist v).engine = s.engine := rfl
@[simp] theorem State.setPersist_store (s : State) (v) : (s.setPersist v).store = s.store := rfl
@[simp] theorem State.setPersist_persist (s : State) (v) : (s.setPersist v).persist = v := rfl
@[simp] theorem State.setPersist_params (s : State) (v) : (s.setPersist v).params = s.params := rfl
@[simp] theorem State.setPersist_counters (s : State) (v) : (s.setPersist v).counters = s.counters := rfl
@[simp] theorem State.setPersist_attn (s : State) (v) : (s.setPersist v).attn = s.attn := rfl
@[simp] theorem State.setPersist_port (s : State) (v) : (s.setPersist v).port = s.port := rfl
@[simp] theorem State.setPersist_media (s : State) (v) : (s.setPersist v).media = s.media := rfl
@[simp] theorem State.setPersist_pending (s : State) (v) : (s.setPersist v).pending = s.pending := rfl
@[simp] theorem State.setParams_setParams (s : State) (v w) : (s.setParams v).setParams w = s.setParams w := rfl
@[simp] theorem State.setParams_phase (s : State) (v) : (s.setParams v).phase = s.phase := rfl
@[simp] theorem State.setParams_loadNext (s : State) (v) : (s.setParams v).loadNext = s.loadNext := rfl
@[simp] theorem State.setParams_link (s : State) (v) : (s.setParams v).link = s.link := rfl
@[simp] theorem State.setParams_ops (s : State) (v) : (s.setParams v).ops = s.ops := rfl
@[simp] theorem State.setParams_stamps (s : State) (v) : (s.setParams v).stamps = s.stamps := rfl
@[simp] theorem State.setParams_linkOut (s : State) (v) : (s.setParams v).linkOut = s.linkOut := rfl
@[simp] theorem State.setParams_table (s : State) (v) : (s.setParams v).table = s.table := rfl
@[simp] theorem State.setParams_wbQueue (s : State) (v) : (s.setParams v).wbQueue = s.wbQueue := rfl
@[simp] theorem State.setParams_verifyQueue (s : State) (v) : (s.setParams v).verifyQueue = s.verifyQueue := rfl
@[simp] theorem State.setParams_patrol (s : State) (v) : (s.setParams v).patrol = s.patrol := rfl
@[simp] theorem State.setParams_quiet (s : State) (v) : (s.setParams v).quiet = s.quiet := rfl
@[simp] theorem State.setParams_hold (s : State) (v) : (s.setParams v).hold = s.hold := rfl
@[simp] theorem State.setParams_slot (s : State) (v) : (s.setParams v).slot = s.slot := rfl
@[simp] theorem State.setParams_spares (s : State) (v) : (s.setParams v).spares = s.spares := rfl
@[simp] theorem State.setParams_queue (s : State) (v) : (s.setParams v).queue = s.queue := rfl
@[simp] theorem State.setParams_engine (s : State) (v) : (s.setParams v).engine = s.engine := rfl
@[simp] theorem State.setParams_store (s : State) (v) : (s.setParams v).store = s.store := rfl
@[simp] theorem State.setParams_persist (s : State) (v) : (s.setParams v).persist = s.persist := rfl
@[simp] theorem State.setParams_params (s : State) (v) : (s.setParams v).params = v := rfl
@[simp] theorem State.setParams_counters (s : State) (v) : (s.setParams v).counters = s.counters := rfl
@[simp] theorem State.setParams_attn (s : State) (v) : (s.setParams v).attn = s.attn := rfl
@[simp] theorem State.setParams_port (s : State) (v) : (s.setParams v).port = s.port := rfl
@[simp] theorem State.setParams_media (s : State) (v) : (s.setParams v).media = s.media := rfl
@[simp] theorem State.setParams_pending (s : State) (v) : (s.setParams v).pending = s.pending := rfl
@[simp] theorem State.setCounters_setCounters (s : State) (v w) : (s.setCounters v).setCounters w = s.setCounters w := rfl
@[simp] theorem State.setCounters_phase (s : State) (v) : (s.setCounters v).phase = s.phase := rfl
@[simp] theorem State.setCounters_loadNext (s : State) (v) : (s.setCounters v).loadNext = s.loadNext := rfl
@[simp] theorem State.setCounters_link (s : State) (v) : (s.setCounters v).link = s.link := rfl
@[simp] theorem State.setCounters_ops (s : State) (v) : (s.setCounters v).ops = s.ops := rfl
@[simp] theorem State.setCounters_stamps (s : State) (v) : (s.setCounters v).stamps = s.stamps := rfl
@[simp] theorem State.setCounters_linkOut (s : State) (v) : (s.setCounters v).linkOut = s.linkOut := rfl
@[simp] theorem State.setCounters_table (s : State) (v) : (s.setCounters v).table = s.table := rfl
@[simp] theorem State.setCounters_wbQueue (s : State) (v) : (s.setCounters v).wbQueue = s.wbQueue := rfl
@[simp] theorem State.setCounters_verifyQueue (s : State) (v) : (s.setCounters v).verifyQueue = s.verifyQueue := rfl
@[simp] theorem State.setCounters_patrol (s : State) (v) : (s.setCounters v).patrol = s.patrol := rfl
@[simp] theorem State.setCounters_quiet (s : State) (v) : (s.setCounters v).quiet = s.quiet := rfl
@[simp] theorem State.setCounters_hold (s : State) (v) : (s.setCounters v).hold = s.hold := rfl
@[simp] theorem State.setCounters_slot (s : State) (v) : (s.setCounters v).slot = s.slot := rfl
@[simp] theorem State.setCounters_spares (s : State) (v) : (s.setCounters v).spares = s.spares := rfl
@[simp] theorem State.setCounters_queue (s : State) (v) : (s.setCounters v).queue = s.queue := rfl
@[simp] theorem State.setCounters_engine (s : State) (v) : (s.setCounters v).engine = s.engine := rfl
@[simp] theorem State.setCounters_store (s : State) (v) : (s.setCounters v).store = s.store := rfl
@[simp] theorem State.setCounters_persist (s : State) (v) : (s.setCounters v).persist = s.persist := rfl
@[simp] theorem State.setCounters_params (s : State) (v) : (s.setCounters v).params = s.params := rfl
@[simp] theorem State.setCounters_counters (s : State) (v) : (s.setCounters v).counters = v := rfl
@[simp] theorem State.setCounters_attn (s : State) (v) : (s.setCounters v).attn = s.attn := rfl
@[simp] theorem State.setCounters_port (s : State) (v) : (s.setCounters v).port = s.port := rfl
@[simp] theorem State.setCounters_media (s : State) (v) : (s.setCounters v).media = s.media := rfl
@[simp] theorem State.setCounters_pending (s : State) (v) : (s.setCounters v).pending = s.pending := rfl
@[simp] theorem State.setAttn_setAttn (s : State) (v w) : (s.setAttn v).setAttn w = s.setAttn w := rfl
@[simp] theorem State.setAttn_phase (s : State) (v) : (s.setAttn v).phase = s.phase := rfl
@[simp] theorem State.setAttn_loadNext (s : State) (v) : (s.setAttn v).loadNext = s.loadNext := rfl
@[simp] theorem State.setAttn_link (s : State) (v) : (s.setAttn v).link = s.link := rfl
@[simp] theorem State.setAttn_ops (s : State) (v) : (s.setAttn v).ops = s.ops := rfl
@[simp] theorem State.setAttn_stamps (s : State) (v) : (s.setAttn v).stamps = s.stamps := rfl
@[simp] theorem State.setAttn_linkOut (s : State) (v) : (s.setAttn v).linkOut = s.linkOut := rfl
@[simp] theorem State.setAttn_table (s : State) (v) : (s.setAttn v).table = s.table := rfl
@[simp] theorem State.setAttn_wbQueue (s : State) (v) : (s.setAttn v).wbQueue = s.wbQueue := rfl
@[simp] theorem State.setAttn_verifyQueue (s : State) (v) : (s.setAttn v).verifyQueue = s.verifyQueue := rfl
@[simp] theorem State.setAttn_patrol (s : State) (v) : (s.setAttn v).patrol = s.patrol := rfl
@[simp] theorem State.setAttn_quiet (s : State) (v) : (s.setAttn v).quiet = s.quiet := rfl
@[simp] theorem State.setAttn_hold (s : State) (v) : (s.setAttn v).hold = s.hold := rfl
@[simp] theorem State.setAttn_slot (s : State) (v) : (s.setAttn v).slot = s.slot := rfl
@[simp] theorem State.setAttn_spares (s : State) (v) : (s.setAttn v).spares = s.spares := rfl
@[simp] theorem State.setAttn_queue (s : State) (v) : (s.setAttn v).queue = s.queue := rfl
@[simp] theorem State.setAttn_engine (s : State) (v) : (s.setAttn v).engine = s.engine := rfl
@[simp] theorem State.setAttn_store (s : State) (v) : (s.setAttn v).store = s.store := rfl
@[simp] theorem State.setAttn_persist (s : State) (v) : (s.setAttn v).persist = s.persist := rfl
@[simp] theorem State.setAttn_params (s : State) (v) : (s.setAttn v).params = s.params := rfl
@[simp] theorem State.setAttn_counters (s : State) (v) : (s.setAttn v).counters = s.counters := rfl
@[simp] theorem State.setAttn_attn (s : State) (v) : (s.setAttn v).attn = v := rfl
@[simp] theorem State.setAttn_port (s : State) (v) : (s.setAttn v).port = s.port := rfl
@[simp] theorem State.setAttn_media (s : State) (v) : (s.setAttn v).media = s.media := rfl
@[simp] theorem State.setAttn_pending (s : State) (v) : (s.setAttn v).pending = s.pending := rfl
@[simp] theorem State.setPort_setPort (s : State) (v w) : (s.setPort v).setPort w = s.setPort w := rfl
@[simp] theorem State.setPort_phase (s : State) (v) : (s.setPort v).phase = s.phase := rfl
@[simp] theorem State.setPort_loadNext (s : State) (v) : (s.setPort v).loadNext = s.loadNext := rfl
@[simp] theorem State.setPort_link (s : State) (v) : (s.setPort v).link = s.link := rfl
@[simp] theorem State.setPort_ops (s : State) (v) : (s.setPort v).ops = s.ops := rfl
@[simp] theorem State.setPort_stamps (s : State) (v) : (s.setPort v).stamps = s.stamps := rfl
@[simp] theorem State.setPort_linkOut (s : State) (v) : (s.setPort v).linkOut = s.linkOut := rfl
@[simp] theorem State.setPort_table (s : State) (v) : (s.setPort v).table = s.table := rfl
@[simp] theorem State.setPort_wbQueue (s : State) (v) : (s.setPort v).wbQueue = s.wbQueue := rfl
@[simp] theorem State.setPort_verifyQueue (s : State) (v) : (s.setPort v).verifyQueue = s.verifyQueue := rfl
@[simp] theorem State.setPort_patrol (s : State) (v) : (s.setPort v).patrol = s.patrol := rfl
@[simp] theorem State.setPort_quiet (s : State) (v) : (s.setPort v).quiet = s.quiet := rfl
@[simp] theorem State.setPort_hold (s : State) (v) : (s.setPort v).hold = s.hold := rfl
@[simp] theorem State.setPort_slot (s : State) (v) : (s.setPort v).slot = s.slot := rfl
@[simp] theorem State.setPort_spares (s : State) (v) : (s.setPort v).spares = s.spares := rfl
@[simp] theorem State.setPort_queue (s : State) (v) : (s.setPort v).queue = s.queue := rfl
@[simp] theorem State.setPort_engine (s : State) (v) : (s.setPort v).engine = s.engine := rfl
@[simp] theorem State.setPort_store (s : State) (v) : (s.setPort v).store = s.store := rfl
@[simp] theorem State.setPort_persist (s : State) (v) : (s.setPort v).persist = s.persist := rfl
@[simp] theorem State.setPort_params (s : State) (v) : (s.setPort v).params = s.params := rfl
@[simp] theorem State.setPort_counters (s : State) (v) : (s.setPort v).counters = s.counters := rfl
@[simp] theorem State.setPort_attn (s : State) (v) : (s.setPort v).attn = s.attn := rfl
@[simp] theorem State.setPort_port (s : State) (v) : (s.setPort v).port = v := rfl
@[simp] theorem State.setPort_media (s : State) (v) : (s.setPort v).media = s.media := rfl
@[simp] theorem State.setPort_pending (s : State) (v) : (s.setPort v).pending = s.pending := rfl
@[simp] theorem State.setMedia_setMedia (s : State) (v w) : (s.setMedia v).setMedia w = s.setMedia w := rfl
@[simp] theorem State.setMedia_phase (s : State) (v) : (s.setMedia v).phase = s.phase := rfl
@[simp] theorem State.setMedia_loadNext (s : State) (v) : (s.setMedia v).loadNext = s.loadNext := rfl
@[simp] theorem State.setMedia_link (s : State) (v) : (s.setMedia v).link = s.link := rfl
@[simp] theorem State.setMedia_ops (s : State) (v) : (s.setMedia v).ops = s.ops := rfl
@[simp] theorem State.setMedia_stamps (s : State) (v) : (s.setMedia v).stamps = s.stamps := rfl
@[simp] theorem State.setMedia_linkOut (s : State) (v) : (s.setMedia v).linkOut = s.linkOut := rfl
@[simp] theorem State.setMedia_table (s : State) (v) : (s.setMedia v).table = s.table := rfl
@[simp] theorem State.setMedia_wbQueue (s : State) (v) : (s.setMedia v).wbQueue = s.wbQueue := rfl
@[simp] theorem State.setMedia_verifyQueue (s : State) (v) : (s.setMedia v).verifyQueue = s.verifyQueue := rfl
@[simp] theorem State.setMedia_patrol (s : State) (v) : (s.setMedia v).patrol = s.patrol := rfl
@[simp] theorem State.setMedia_quiet (s : State) (v) : (s.setMedia v).quiet = s.quiet := rfl
@[simp] theorem State.setMedia_hold (s : State) (v) : (s.setMedia v).hold = s.hold := rfl
@[simp] theorem State.setMedia_slot (s : State) (v) : (s.setMedia v).slot = s.slot := rfl
@[simp] theorem State.setMedia_spares (s : State) (v) : (s.setMedia v).spares = s.spares := rfl
@[simp] theorem State.setMedia_queue (s : State) (v) : (s.setMedia v).queue = s.queue := rfl
@[simp] theorem State.setMedia_engine (s : State) (v) : (s.setMedia v).engine = s.engine := rfl
@[simp] theorem State.setMedia_store (s : State) (v) : (s.setMedia v).store = s.store := rfl
@[simp] theorem State.setMedia_persist (s : State) (v) : (s.setMedia v).persist = s.persist := rfl
@[simp] theorem State.setMedia_params (s : State) (v) : (s.setMedia v).params = s.params := rfl
@[simp] theorem State.setMedia_counters (s : State) (v) : (s.setMedia v).counters = s.counters := rfl
@[simp] theorem State.setMedia_attn (s : State) (v) : (s.setMedia v).attn = s.attn := rfl
@[simp] theorem State.setMedia_port (s : State) (v) : (s.setMedia v).port = s.port := rfl
@[simp] theorem State.setMedia_media (s : State) (v) : (s.setMedia v).media = v := rfl
@[simp] theorem State.setMedia_pending (s : State) (v) : (s.setMedia v).pending = s.pending := rfl
@[simp] theorem State.setPending_setPending (s : State) (v w) : (s.setPending v).setPending w = s.setPending w := rfl
@[simp] theorem State.setPending_phase (s : State) (v) : (s.setPending v).phase = s.phase := rfl
@[simp] theorem State.setPending_loadNext (s : State) (v) : (s.setPending v).loadNext = s.loadNext := rfl
@[simp] theorem State.setPending_link (s : State) (v) : (s.setPending v).link = s.link := rfl
@[simp] theorem State.setPending_ops (s : State) (v) : (s.setPending v).ops = s.ops := rfl
@[simp] theorem State.setPending_stamps (s : State) (v) : (s.setPending v).stamps = s.stamps := rfl
@[simp] theorem State.setPending_linkOut (s : State) (v) : (s.setPending v).linkOut = s.linkOut := rfl
@[simp] theorem State.setPending_table (s : State) (v) : (s.setPending v).table = s.table := rfl
@[simp] theorem State.setPending_wbQueue (s : State) (v) : (s.setPending v).wbQueue = s.wbQueue := rfl
@[simp] theorem State.setPending_verifyQueue (s : State) (v) : (s.setPending v).verifyQueue = s.verifyQueue := rfl
@[simp] theorem State.setPending_patrol (s : State) (v) : (s.setPending v).patrol = s.patrol := rfl
@[simp] theorem State.setPending_quiet (s : State) (v) : (s.setPending v).quiet = s.quiet := rfl
@[simp] theorem State.setPending_hold (s : State) (v) : (s.setPending v).hold = s.hold := rfl
@[simp] theorem State.setPending_slot (s : State) (v) : (s.setPending v).slot = s.slot := rfl
@[simp] theorem State.setPending_spares (s : State) (v) : (s.setPending v).spares = s.spares := rfl
@[simp] theorem State.setPending_queue (s : State) (v) : (s.setPending v).queue = s.queue := rfl
@[simp] theorem State.setPending_engine (s : State) (v) : (s.setPending v).engine = s.engine := rfl
@[simp] theorem State.setPending_store (s : State) (v) : (s.setPending v).store = s.store := rfl
@[simp] theorem State.setPending_persist (s : State) (v) : (s.setPending v).persist = s.persist := rfl
@[simp] theorem State.setPending_params (s : State) (v) : (s.setPending v).params = s.params := rfl
@[simp] theorem State.setPending_counters (s : State) (v) : (s.setPending v).counters = s.counters := rfl
@[simp] theorem State.setPending_attn (s : State) (v) : (s.setPending v).attn = s.attn := rfl
@[simp] theorem State.setPending_port (s : State) (v) : (s.setPending v).port = s.port := rfl
@[simp] theorem State.setPending_media (s : State) (v) : (s.setPending v).media = s.media := rfl
@[simp] theorem State.setPending_pending (s : State) (v) : (s.setPending v).pending = v := rfl

end Sys2Proof.Machine
end

