-- ==== Sys2Proof/Laws/Ops.lean ====
section
/-! SUPPORT. Laws/Ops.lean: what each shared operation on the media, the records, the line orders and the slot leaves untouched, one lemma per operation. -/

namespace Sys2Proof.Machine

@[simp] theorem raise_frame (f : AttnFlag) (s : State) :
    (raise f s).phase = s.phase ∧ (raise f s).loadNext = s.loadNext ∧ (raise f s).link = s.link ∧
    (raise f s).ops = s.ops ∧ (raise f s).stamps = s.stamps ∧ (raise f s).linkOut = s.linkOut ∧
    (raise f s).table = s.table ∧ (raise f s).wbQueue = s.wbQueue ∧ (raise f s).verifyQueue = s.verifyQueue ∧
    (raise f s).patrol = s.patrol ∧ (raise f s).quiet = s.quiet ∧ (raise f s).hold = s.hold ∧
    (raise f s).slot = s.slot ∧ (raise f s).spares = s.spares ∧ (raise f s).queue = s.queue ∧
    (raise f s).engine = s.engine ∧ (raise f s).store = s.store ∧ (raise f s).persist = s.persist ∧
    (raise f s).params = s.params ∧ (raise f s).counters = s.counters ∧ (raise f s).port = s.port ∧
    (raise f s).media = s.media ∧ (raise f s).pending = s.pending := by
  simp [raise]

@[simp] theorem count_frame (c : Counter) (s : State) :
    (count c s).phase = s.phase ∧ (count c s).loadNext = s.loadNext ∧ (count c s).link = s.link ∧
    (count c s).ops = s.ops ∧ (count c s).stamps = s.stamps ∧ (count c s).linkOut = s.linkOut ∧
    (count c s).table = s.table ∧ (count c s).wbQueue = s.wbQueue ∧ (count c s).verifyQueue = s.verifyQueue ∧
    (count c s).patrol = s.patrol ∧ (count c s).quiet = s.quiet ∧ (count c s).hold = s.hold ∧
    (count c s).slot = s.slot ∧ (count c s).spares = s.spares ∧ (count c s).queue = s.queue ∧
    (count c s).engine = s.engine ∧ (count c s).store = s.store ∧ (count c s).persist = s.persist ∧
    (count c s).params = s.params ∧ (count c s).attn = s.attn ∧ (count c s).port = s.port ∧
    (count c s).media = s.media ∧ (count c s).pending = s.pending := by
  simp [count]

@[simp] theorem writeLine_frame (l : LineAddr) (ts : List Place) (c : LineContent) (s : State) :
    (writeLine l ts c s).phase = s.phase ∧ (writeLine l ts c s).loadNext = s.loadNext ∧
    (writeLine l ts c s).link = s.link ∧ (writeLine l ts c s).ops = s.ops ∧
    (writeLine l ts c s).stamps = s.stamps ∧ (writeLine l ts c s).linkOut = s.linkOut ∧
    (writeLine l ts c s).table = s.table ∧ (writeLine l ts c s).wbQueue = s.wbQueue ∧
    (writeLine l ts c s).verifyQueue = s.verifyQueue ∧ (writeLine l ts c s).patrol = s.patrol ∧
    (writeLine l ts c s).quiet = s.quiet ∧ (writeLine l ts c s).hold = s.hold ∧
    (writeLine l ts c s).slot = s.slot ∧ (writeLine l ts c s).spares = s.spares ∧
    (writeLine l ts c s).queue = s.queue ∧ (writeLine l ts c s).engine = s.engine ∧
    (writeLine l ts c s).store = s.store ∧ (writeLine l ts c s).persist = s.persist ∧
    (writeLine l ts c s).params = s.params ∧ (writeLine l ts c s).counters = s.counters ∧
    (writeLine l ts c s).attn = s.attn ∧ (writeLine l ts c s).port = s.port ∧
    (writeLine l ts c s).pending = s.pending := by
  simp [writeLine]

@[simp] theorem updateRecord_frame (k : RowKey) (f : Record → Record) (s : State) :
    (updateRecord k f s).phase = s.phase ∧ (updateRecord k f s).loadNext = s.loadNext ∧
    (updateRecord k f s).link = s.link ∧ (updateRecord k f s).ops = s.ops ∧
    (updateRecord k f s).stamps = s.stamps ∧ (updateRecord k f s).linkOut = s.linkOut ∧
    (updateRecord k f s).wbQueue = s.wbQueue ∧ (updateRecord k f s).verifyQueue = s.verifyQueue ∧
    (updateRecord k f s).patrol = s.patrol ∧ (updateRecord k f s).quiet = s.quiet ∧
    (updateRecord k f s).hold = s.hold ∧ (updateRecord k f s).slot = s.slot ∧
    (updateRecord k f s).spares = s.spares ∧ (updateRecord k f s).queue = s.queue ∧
    (updateRecord k f s).engine = s.engine ∧ (updateRecord k f s).store = s.store ∧
    (updateRecord k f s).persist = s.persist ∧ (updateRecord k f s).params = s.params ∧
    (updateRecord k f s).counters = s.counters ∧ (updateRecord k f s).attn = s.attn ∧
    (updateRecord k f s).port = s.port ∧ (updateRecord k f s).media = s.media ∧
    (updateRecord k f s).pending = s.pending := by
  simp [updateRecord]

@[simp] theorem clearPoison_frame (l : LineAddr) (s : State) :
    (clearPoison l s).phase = s.phase ∧ (clearPoison l s).loadNext = s.loadNext ∧
    (clearPoison l s).link = s.link ∧ (clearPoison l s).ops = s.ops ∧ (clearPoison l s).stamps = s.stamps ∧
    (clearPoison l s).linkOut = s.linkOut ∧ (clearPoison l s).wbQueue = s.wbQueue ∧
    (clearPoison l s).verifyQueue = s.verifyQueue ∧ (clearPoison l s).patrol = s.patrol ∧
    (clearPoison l s).quiet = s.quiet ∧ (clearPoison l s).hold = s.hold ∧ (clearPoison l s).slot = s.slot ∧
    (clearPoison l s).spares = s.spares ∧ (clearPoison l s).queue = s.queue ∧
    (clearPoison l s).engine = s.engine ∧ (clearPoison l s).store = s.store ∧
    (clearPoison l s).persist = s.persist ∧ (clearPoison l s).params = s.params ∧
    (clearPoison l s).counters = s.counters ∧ (clearPoison l s).attn = s.attn ∧ (clearPoison l s).port = s.port ∧
    (clearPoison l s).media = s.media ∧ (clearPoison l s).pending = s.pending := by
  simp [clearPoison]

@[simp] theorem followMarked_frame (l : LineAddr) (ts : List Place) (c : LineContent) (s : State) :
    (followMarked l ts c s).phase = s.phase ∧ (followMarked l ts c s).loadNext = s.loadNext ∧
    (followMarked l ts c s).link = s.link ∧ (followMarked l ts c s).ops = s.ops ∧
    (followMarked l ts c s).stamps = s.stamps ∧ (followMarked l ts c s).linkOut = s.linkOut ∧
    (followMarked l ts c s).table = s.table ∧ (followMarked l ts c s).wbQueue = s.wbQueue ∧
    (followMarked l ts c s).verifyQueue = s.verifyQueue ∧ (followMarked l ts c s).patrol = s.patrol ∧
    (followMarked l ts c s).quiet = s.quiet ∧ (followMarked l ts c s).hold = s.hold ∧
    (followMarked l ts c s).slot = s.slot ∧ (followMarked l ts c s).spares = s.spares ∧
    (followMarked l ts c s).queue = s.queue ∧ (followMarked l ts c s).store = s.store ∧
    (followMarked l ts c s).persist = s.persist ∧ (followMarked l ts c s).params = s.params ∧
    (followMarked l ts c s).counters = s.counters ∧ (followMarked l ts c s).attn = s.attn ∧
    (followMarked l ts c s).port = s.port ∧ (followMarked l ts c s).media = s.media ∧
    (followMarked l ts c s).pending = s.pending := by
  unfold followMarked
  (repeat' split) <;> simp

@[simp] theorem joinOrder_frame (o : Op) (s : State) :
    (joinOrder o s).phase = s.phase ∧ (joinOrder o s).loadNext = s.loadNext ∧ (joinOrder o s).link = s.link ∧
    (joinOrder o s).stamps = s.stamps ∧ (joinOrder o s).linkOut = s.linkOut ∧ (joinOrder o s).table = s.table ∧
    (joinOrder o s).wbQueue = s.wbQueue ∧ (joinOrder o s).verifyQueue = s.verifyQueue ∧
    (joinOrder o s).patrol = s.patrol ∧ (joinOrder o s).quiet = s.quiet ∧ (joinOrder o s).hold = s.hold ∧
    (joinOrder o s).slot = s.slot ∧ (joinOrder o s).spares = s.spares ∧ (joinOrder o s).queue = s.queue ∧
    (joinOrder o s).engine = s.engine ∧ (joinOrder o s).store = s.store ∧ (joinOrder o s).persist = s.persist ∧
    (joinOrder o s).params = s.params ∧ (joinOrder o s).counters = s.counters ∧ (joinOrder o s).attn = s.attn ∧
    (joinOrder o s).port = s.port ∧ (joinOrder o s).media = s.media ∧ (joinOrder o s).pending = s.pending := by
  simp [joinOrder]

@[simp] theorem leaveOrder_frame (l : LineAddr) (s : State) :
    (leaveOrder l s).phase = s.phase ∧ (leaveOrder l s).loadNext = s.loadNext ∧ (leaveOrder l s).link = s.link ∧
    (leaveOrder l s).stamps = s.stamps ∧ (leaveOrder l s).linkOut = s.linkOut ∧ (leaveOrder l s).table = s.table ∧
    (leaveOrder l s).wbQueue = s.wbQueue ∧ (leaveOrder l s).verifyQueue = s.verifyQueue ∧
    (leaveOrder l s).patrol = s.patrol ∧ (leaveOrder l s).quiet = s.quiet ∧ (leaveOrder l s).hold = s.hold ∧
    (leaveOrder l s).slot = s.slot ∧ (leaveOrder l s).spares = s.spares ∧ (leaveOrder l s).queue = s.queue ∧
    (leaveOrder l s).engine = s.engine ∧ (leaveOrder l s).store = s.store ∧ (leaveOrder l s).persist = s.persist ∧
    (leaveOrder l s).params = s.params ∧ (leaveOrder l s).counters = s.counters ∧ (leaveOrder l s).attn = s.attn ∧
    (leaveOrder l s).port = s.port ∧ (leaveOrder l s).media = s.media ∧ (leaveOrder l s).pending = s.pending := by
  simp [leaveOrder]

@[simp] theorem setStage_frame (l : LineAddr) (st : Stage) (s : State) :
    (setStage l st s).phase = s.phase ∧ (setStage l st s).loadNext = s.loadNext ∧
    (setStage l st s).link = s.link ∧ (setStage l st s).stamps = s.stamps ∧
    (setStage l st s).linkOut = s.linkOut ∧ (setStage l st s).table = s.table ∧
    (setStage l st s).wbQueue = s.wbQueue ∧ (setStage l st s).verifyQueue = s.verifyQueue ∧
    (setStage l st s).patrol = s.patrol ∧ (setStage l st s).quiet = s.quiet ∧ (setStage l st s).hold = s.hold ∧
    (setStage l st s).slot = s.slot ∧ (setStage l st s).spares = s.spares ∧ (setStage l st s).queue = s.queue ∧
    (setStage l st s).engine = s.engine ∧ (setStage l st s).store = s.store ∧
    (setStage l st s).persist = s.persist ∧ (setStage l st s).params = s.params ∧
    (setStage l st s).counters = s.counters ∧ (setStage l st s).attn = s.attn ∧ (setStage l st s).port = s.port ∧
    (setStage l st s).media = s.media ∧ (setStage l st s).pending = s.pending := by
  simp [setStage]

@[simp] theorem issueRead_frame (l : LineAddr) (p : Place) (v : Bool) (s : State) :
    (issueRead l p v s).phase = s.phase ∧ (issueRead l p v s).loadNext = s.loadNext ∧
    (issueRead l p v s).link = s.link ∧ (issueRead l p v s).linkOut = s.linkOut ∧
    (issueRead l p v s).table = s.table ∧ (issueRead l p v s).wbQueue = s.wbQueue ∧
    (issueRead l p v s).verifyQueue = s.verifyQueue ∧ (issueRead l p v s).patrol = s.patrol ∧
    (issueRead l p v s).quiet = s.quiet ∧ (issueRead l p v s).hold = s.hold ∧ (issueRead l p v s).slot = s.slot ∧
    (issueRead l p v s).spares = s.spares ∧ (issueRead l p v s).queue = s.queue ∧
    (issueRead l p v s).engine = s.engine ∧ (issueRead l p v s).store = s.store ∧
    (issueRead l p v s).persist = s.persist ∧ (issueRead l p v s).params = s.params ∧
    (issueRead l p v s).counters = s.counters ∧ (issueRead l p v s).attn = s.attn ∧
    (issueRead l p v s).port = s.port ∧ (issueRead l p v s).media = s.media ∧
    (issueRead l p v s).pending = s.pending := by
  simp [issueRead]

@[simp] theorem issueReread_frame (l : LineAddr) (p : Place) (s : State) :
    (issueReread l p s).phase = s.phase ∧ (issueReread l p s).loadNext = s.loadNext ∧
    (issueReread l p s).link = s.link ∧ (issueReread l p s).linkOut = s.linkOut ∧
    (issueReread l p s).table = s.table ∧ (issueReread l p s).wbQueue = s.wbQueue ∧
    (issueReread l p s).verifyQueue = s.verifyQueue ∧ (issueReread l p s).patrol = s.patrol ∧
    (issueReread l p s).quiet = s.quiet ∧ (issueReread l p s).hold = s.hold ∧ (issueReread l p s).slot = s.slot ∧
    (issueReread l p s).spares = s.spares ∧ (issueReread l p s).queue = s.queue ∧
    (issueReread l p s).engine = s.engine ∧ (issueReread l p s).store = s.store ∧
    (issueReread l p s).persist = s.persist ∧ (issueReread l p s).params = s.params ∧
    (issueReread l p s).counters = s.counters ∧ (issueReread l p s).attn = s.attn ∧
    (issueReread l p s).port = s.port ∧ (issueReread l p s).media = s.media ∧
    (issueReread l p s).pending = s.pending := by
  simp [issueReread]

@[simp] theorem issueWrite_frame (l : LineAddr) (ts : List Place) (c : LineContent) (s : State) :
    (issueWrite l ts c s).phase = s.phase ∧ (issueWrite l ts c s).loadNext = s.loadNext ∧
    (issueWrite l ts c s).link = s.link ∧ (issueWrite l ts c s).linkOut = s.linkOut ∧
    (issueWrite l ts c s).table = s.table ∧ (issueWrite l ts c s).wbQueue = s.wbQueue ∧
    (issueWrite l ts c s).verifyQueue = s.verifyQueue ∧ (issueWrite l ts c s).patrol = s.patrol ∧
    (issueWrite l ts c s).quiet = s.quiet ∧ (issueWrite l ts c s).hold = s.hold ∧
    (issueWrite l ts c s).slot = s.slot ∧ (issueWrite l ts c s).spares = s.spares ∧
    (issueWrite l ts c s).queue = s.queue ∧ (issueWrite l ts c s).engine = s.engine ∧
    (issueWrite l ts c s).store = s.store ∧ (issueWrite l ts c s).persist = s.persist ∧
    (issueWrite l ts c s).params = s.params ∧ (issueWrite l ts c s).counters = s.counters ∧
    (issueWrite l ts c s).attn = s.attn ∧ (issueWrite l ts c s).port = s.port ∧
    (issueWrite l ts c s).media = s.media ∧ (issueWrite l ts c s).pending = s.pending := by
  simp [issueWrite]

@[simp] theorem reportOccupancy_frame (s : State) :
    (reportOccupancy s).phase = s.phase ∧ (reportOccupancy s).loadNext = s.loadNext ∧
    (reportOccupancy s).link = s.link ∧ (reportOccupancy s).ops = s.ops ∧ (reportOccupancy s).stamps = s.stamps ∧
    (reportOccupancy s).linkOut = s.linkOut ∧ (reportOccupancy s).table = s.table ∧
    (reportOccupancy s).wbQueue = s.wbQueue ∧ (reportOccupancy s).verifyQueue = s.verifyQueue ∧
    (reportOccupancy s).patrol = s.patrol ∧ (reportOccupancy s).hold = s.hold ∧
    (reportOccupancy s).slot = s.slot ∧ (reportOccupancy s).spares = s.spares ∧
    (reportOccupancy s).queue = s.queue ∧ (reportOccupancy s).engine = s.engine ∧
    (reportOccupancy s).store = s.store ∧ (reportOccupancy s).persist = s.persist ∧
    (reportOccupancy s).params = s.params ∧ (reportOccupancy s).counters = s.counters ∧
    (reportOccupancy s).attn = s.attn ∧ (reportOccupancy s).port = s.port ∧ (reportOccupancy s).media = s.media ∧
    (reportOccupancy s).pending = s.pending := by
  simp [reportOccupancy]

@[simp] theorem freeSlot_frame (s : State) :
    (freeSlot s).phase = s.phase ∧ (freeSlot s).loadNext = s.loadNext ∧ (freeSlot s).link = s.link ∧
    (freeSlot s).ops = s.ops ∧ (freeSlot s).stamps = s.stamps ∧ (freeSlot s).linkOut = s.linkOut ∧
    (freeSlot s).table = s.table ∧ (freeSlot s).wbQueue = s.wbQueue ∧ (freeSlot s).verifyQueue = s.verifyQueue ∧
    (freeSlot s).patrol = s.patrol ∧ (freeSlot s).quiet = s.quiet ∧ (freeSlot s).hold = s.hold ∧
    (freeSlot s).spares = s.spares ∧ (freeSlot s).queue = s.queue ∧ (freeSlot s).engine = s.engine ∧
    (freeSlot s).store = s.store ∧ (freeSlot s).persist = s.persist ∧ (freeSlot s).params = s.params ∧
    (freeSlot s).counters = s.counters ∧ (freeSlot s).attn = s.attn ∧ (freeSlot s).port = s.port ∧
    (freeSlot s).media = s.media ∧ (freeSlot s).pending = s.pending := by
  simp [freeSlot]

end Sys2Proof.Machine
end

