-- ==== Sys2Proof/Laws/Sparing.lean ====
section
/-! SUPPORT. Laws/Sparing.lean: what each operation of the Spare Pool, the migration queue, the persist engine's beginnings and the Migration Engine leaves untouched. -/

namespace Sys2Proof.Machine

@[simp] theorem setSpare_frame (p : BankPos) (i : SpareIdx) (st : SpareState) (s : State) :
    (setSpare p i st s).phase = s.phase ∧ (setSpare p i st s).loadNext = s.loadNext ∧
    (setSpare p i st s).link = s.link ∧ (setSpare p i st s).ops = s.ops ∧ (setSpare p i st s).stamps = s.stamps ∧
    (setSpare p i st s).linkOut = s.linkOut ∧ (setSpare p i st s).table = s.table ∧
    (setSpare p i st s).wbQueue = s.wbQueue ∧ (setSpare p i st s).verifyQueue = s.verifyQueue ∧
    (setSpare p i st s).patrol = s.patrol ∧ (setSpare p i st s).quiet = s.quiet ∧
    (setSpare p i st s).hold = s.hold ∧ (setSpare p i st s).slot = s.slot ∧ (setSpare p i st s).queue = s.queue ∧
    (setSpare p i st s).engine = s.engine ∧ (setSpare p i st s).store = s.store ∧
    (setSpare p i st s).persist = s.persist ∧ (setSpare p i st s).params = s.params ∧
    (setSpare p i st s).counters = s.counters ∧ (setSpare p i st s).attn = s.attn ∧
    (setSpare p i st s).port = s.port ∧ (setSpare p i st s).media = s.media ∧
    (setSpare p i st s).pending = s.pending := by
  unfold setSpare
  (repeat' split) <;> simp

@[simp] theorem warnLow_frame (p : BankPos) (s : State) :
    (warnLow p s).phase = s.phase ∧ (warnLow p s).loadNext = s.loadNext ∧ (warnLow p s).link = s.link ∧
    (warnLow p s).ops = s.ops ∧ (warnLow p s).stamps = s.stamps ∧ (warnLow p s).linkOut = s.linkOut ∧
    (warnLow p s).table = s.table ∧ (warnLow p s).wbQueue = s.wbQueue ∧
    (warnLow p s).verifyQueue = s.verifyQueue ∧ (warnLow p s).patrol = s.patrol ∧ (warnLow p s).quiet = s.quiet ∧
    (warnLow p s).hold = s.hold ∧ (warnLow p s).slot = s.slot ∧ (warnLow p s).spares = s.spares ∧
    (warnLow p s).queue = s.queue ∧ (warnLow p s).engine = s.engine ∧ (warnLow p s).store = s.store ∧
    (warnLow p s).persist = s.persist ∧ (warnLow p s).params = s.params ∧ (warnLow p s).counters = s.counters ∧
    (warnLow p s).port = s.port ∧ (warnLow p s).media = s.media ∧ (warnLow p s).pending = s.pending := by
  unfold warnLow
  (repeat' split) <;> simp

@[simp] theorem allocate_frame (p : BankPos) (i : SpareIdx) (s : State) :
    (allocate p i s).phase = s.phase ∧ (allocate p i s).loadNext = s.loadNext ∧ (allocate p i s).link = s.link ∧
    (allocate p i s).ops = s.ops ∧ (allocate p i s).stamps = s.stamps ∧ (allocate p i s).linkOut = s.linkOut ∧
    (allocate p i s).table = s.table ∧ (allocate p i s).wbQueue = s.wbQueue ∧
    (allocate p i s).verifyQueue = s.verifyQueue ∧ (allocate p i s).patrol = s.patrol ∧
    (allocate p i s).quiet = s.quiet ∧ (allocate p i s).hold = s.hold ∧ (allocate p i s).slot = s.slot ∧
    (allocate p i s).queue = s.queue ∧ (allocate p i s).engine = s.engine ∧ (allocate p i s).store = s.store ∧
    (allocate p i s).persist = s.persist ∧ (allocate p i s).params = s.params ∧
    (allocate p i s).counters = s.counters ∧ (allocate p i s).port = s.port ∧ (allocate p i s).media = s.media ∧
    (allocate p i s).pending = s.pending := by
  simp [allocate]

@[simp] theorem burn_frame (p : BankPos) (i : SpareIdx) (s : State) :
    (burn p i s).phase = s.phase ∧ (burn p i s).loadNext = s.loadNext ∧ (burn p i s).link = s.link ∧
    (burn p i s).ops = s.ops ∧ (burn p i s).stamps = s.stamps ∧ (burn p i s).linkOut = s.linkOut ∧
    (burn p i s).table = s.table ∧ (burn p i s).wbQueue = s.wbQueue ∧ (burn p i s).verifyQueue = s.verifyQueue ∧
    (burn p i s).patrol = s.patrol ∧ (burn p i s).quiet = s.quiet ∧ (burn p i s).hold = s.hold ∧
    (burn p i s).slot = s.slot ∧ (burn p i s).queue = s.queue ∧ (burn p i s).engine = s.engine ∧
    (burn p i s).store = s.store ∧ (burn p i s).persist = s.persist ∧ (burn p i s).params = s.params ∧
    (burn p i s).attn = s.attn ∧ (burn p i s).port = s.port ∧ (burn p i s).media = s.media ∧
    (burn p i s).pending = s.pending := by
  simp [burn]

@[simp] theorem storeFull_frame (s : State) :
    (storeFull s).phase = s.phase ∧ (storeFull s).loadNext = s.loadNext ∧ (storeFull s).link = s.link ∧
    (storeFull s).ops = s.ops ∧ (storeFull s).stamps = s.stamps ∧ (storeFull s).linkOut = s.linkOut ∧
    (storeFull s).wbQueue = s.wbQueue ∧ (storeFull s).verifyQueue = s.verifyQueue ∧
    (storeFull s).patrol = s.patrol ∧ (storeFull s).quiet = s.quiet ∧ (storeFull s).hold = s.hold ∧
    (storeFull s).slot = s.slot ∧ (storeFull s).spares = s.spares ∧ (storeFull s).queue = s.queue ∧
    (storeFull s).engine = s.engine ∧ (storeFull s).store = s.store ∧ (storeFull s).params = s.params ∧
    (storeFull s).counters = s.counters ∧ (storeFull s).port = s.port ∧ (storeFull s).media = s.media ∧
    (storeFull s).pending = s.pending := by
  simp [storeFull]

@[simp] theorem beginProgram_frame (item : StoreItem) (n : Nat) (s : State) :
    (beginProgram item n s).phase = s.phase ∧ (beginProgram item n s).loadNext = s.loadNext ∧
    (beginProgram item n s).link = s.link ∧ (beginProgram item n s).ops = s.ops ∧
    (beginProgram item n s).stamps = s.stamps ∧ (beginProgram item n s).linkOut = s.linkOut ∧
    (beginProgram item n s).wbQueue = s.wbQueue ∧ (beginProgram item n s).verifyQueue = s.verifyQueue ∧
    (beginProgram item n s).patrol = s.patrol ∧ (beginProgram item n s).quiet = s.quiet ∧
    (beginProgram item n s).hold = s.hold ∧ (beginProgram item n s).slot = s.slot ∧
    (beginProgram item n s).spares = s.spares ∧ (beginProgram item n s).queue = s.queue ∧
    (beginProgram item n s).engine = s.engine ∧ (beginProgram item n s).store = s.store ∧
    (beginProgram item n s).params = s.params ∧ (beginProgram item n s).counters = s.counters ∧
    (beginProgram item n s).port = s.port ∧ (beginProgram item n s).media = s.media ∧
    (beginProgram item n s).pending = s.pending := by
  unfold beginProgram
  (repeat' split) <;> simp

@[simp] theorem startPersist_frame (s : State) :
    (startPersist s).phase = s.phase ∧ (startPersist s).loadNext = s.loadNext ∧ (startPersist s).link = s.link ∧
    (startPersist s).ops = s.ops ∧ (startPersist s).stamps = s.stamps ∧ (startPersist s).linkOut = s.linkOut ∧
    (startPersist s).wbQueue = s.wbQueue ∧ (startPersist s).verifyQueue = s.verifyQueue ∧
    (startPersist s).patrol = s.patrol ∧ (startPersist s).quiet = s.quiet ∧ (startPersist s).hold = s.hold ∧
    (startPersist s).slot = s.slot ∧ (startPersist s).spares = s.spares ∧ (startPersist s).queue = s.queue ∧
    (startPersist s).engine = s.engine ∧ (startPersist s).store = s.store ∧ (startPersist s).params = s.params ∧
    (startPersist s).counters = s.counters ∧ (startPersist s).port = s.port ∧ (startPersist s).media = s.media ∧
    (startPersist s).pending = s.pending := by
  unfold startPersist
  (repeat' split) <;> simp

@[simp] theorem reportBadSpare_frame (b : SpareName) (s : State) :
    (reportBadSpare b s).phase = s.phase ∧ (reportBadSpare b s).loadNext = s.loadNext ∧
    (reportBadSpare b s).link = s.link ∧ (reportBadSpare b s).ops = s.ops ∧
    (reportBadSpare b s).stamps = s.stamps ∧ (reportBadSpare b s).linkOut = s.linkOut ∧
    (reportBadSpare b s).table = s.table ∧ (reportBadSpare b s).wbQueue = s.wbQueue ∧
    (reportBadSpare b s).verifyQueue = s.verifyQueue ∧ (reportBadSpare b s).patrol = s.patrol ∧
    (reportBadSpare b s).quiet = s.quiet ∧ (reportBadSpare b s).hold = s.hold ∧
    (reportBadSpare b s).slot = s.slot ∧ (reportBadSpare b s).spares = s.spares ∧
    (reportBadSpare b s).queue = s.queue ∧ (reportBadSpare b s).engine = s.engine ∧
    (reportBadSpare b s).store = s.store ∧ (reportBadSpare b s).params = s.params ∧
    (reportBadSpare b s).counters = s.counters ∧ (reportBadSpare b s).attn = s.attn ∧
    (reportBadSpare b s).port = s.port ∧ (reportBadSpare b s).media = s.media ∧
    (reportBadSpare b s).pending = s.pending := by
  unfold reportBadSpare
  (repeat' split) <;> simp

@[simp] theorem condemn_frame (k : RowKey) (s : State) :
    (condemn k s).phase = s.phase ∧ (condemn k s).loadNext = s.loadNext ∧ (condemn k s).link = s.link ∧
    (condemn k s).ops = s.ops ∧ (condemn k s).stamps = s.stamps ∧ (condemn k s).linkOut = s.linkOut ∧
    (condemn k s).wbQueue = s.wbQueue ∧ (condemn k s).verifyQueue = s.verifyQueue ∧
    (condemn k s).patrol = s.patrol ∧ (condemn k s).quiet = s.quiet ∧ (condemn k s).hold = s.hold ∧
    (condemn k s).slot = s.slot ∧ (condemn k s).spares = s.spares ∧ (condemn k s).queue = s.queue ∧
    (condemn k s).engine = s.engine ∧ (condemn k s).store = s.store ∧ (condemn k s).persist = s.persist ∧
    (condemn k s).params = s.params ∧ (condemn k s).counters = s.counters ∧ (condemn k s).port = s.port ∧
    (condemn k s).media = s.media ∧ (condemn k s).pending = s.pending := by
  simp [condemn]

@[simp] theorem startAttempt_frame (k : RowKey) (d : SpareIdx) (n : Nat) (s : State) :
    (startAttempt k d n s).phase = s.phase ∧ (startAttempt k d n s).loadNext = s.loadNext ∧
    (startAttempt k d n s).link = s.link ∧ (startAttempt k d n s).ops = s.ops ∧
    (startAttempt k d n s).stamps = s.stamps ∧ (startAttempt k d n s).linkOut = s.linkOut ∧
    (startAttempt k d n s).wbQueue = s.wbQueue ∧ (startAttempt k d n s).verifyQueue = s.verifyQueue ∧
    (startAttempt k d n s).patrol = s.patrol ∧ (startAttempt k d n s).quiet = s.quiet ∧
    (startAttempt k d n s).hold = s.hold ∧ (startAttempt k d n s).slot = s.slot ∧
    (startAttempt k d n s).queue = s.queue ∧ (startAttempt k d n s).store = s.store ∧
    (startAttempt k d n s).persist = s.persist ∧ (startAttempt k d n s).params = s.params ∧
    (startAttempt k d n s).counters = s.counters ∧ (startAttempt k d n s).port = s.port ∧
    (startAttempt k d n s).media = s.media ∧ (startAttempt k d n s).pending = s.pending := by
  simp [startAttempt]

@[simp] theorem takeHeads_frame (n : Nat) (s : State) :
    (takeHeads n s).phase = s.phase ∧ (takeHeads n s).loadNext = s.loadNext ∧ (takeHeads n s).link = s.link ∧
    (takeHeads n s).ops = s.ops ∧ (takeHeads n s).stamps = s.stamps ∧ (takeHeads n s).linkOut = s.linkOut ∧
    (takeHeads n s).wbQueue = s.wbQueue ∧ (takeHeads n s).verifyQueue = s.verifyQueue ∧
    (takeHeads n s).patrol = s.patrol ∧ (takeHeads n s).quiet = s.quiet ∧ (takeHeads n s).hold = s.hold ∧
    (takeHeads n s).slot = s.slot ∧ (takeHeads n s).store = s.store ∧ (takeHeads n s).persist = s.persist ∧
    (takeHeads n s).params = s.params ∧ (takeHeads n s).counters = s.counters ∧ (takeHeads n s).port = s.port ∧
    (takeHeads n s).media = s.media ∧ (takeHeads n s).pending = s.pending := by
  induction n generalizing s with
  | zero => simp [takeHeads]
  | succ n ih =>
    unfold takeHeads
    repeat' (first | split | (dsimp only; split))
    all_goals simp [ih]

@[simp] theorem serveQueue_frame (s : State) :
    (serveQueue s).phase = s.phase ∧ (serveQueue s).loadNext = s.loadNext ∧ (serveQueue s).link = s.link ∧
    (serveQueue s).ops = s.ops ∧ (serveQueue s).stamps = s.stamps ∧ (serveQueue s).linkOut = s.linkOut ∧
    (serveQueue s).wbQueue = s.wbQueue ∧ (serveQueue s).verifyQueue = s.verifyQueue ∧
    (serveQueue s).patrol = s.patrol ∧ (serveQueue s).quiet = s.quiet ∧ (serveQueue s).hold = s.hold ∧
    (serveQueue s).slot = s.slot ∧ (serveQueue s).store = s.store ∧ (serveQueue s).persist = s.persist ∧
    (serveQueue s).params = s.params ∧ (serveQueue s).counters = s.counters ∧ (serveQueue s).port = s.port ∧
    (serveQueue s).media = s.media ∧ (serveQueue s).pending = s.pending := by
  simp [serveQueue]

@[simp] theorem orphanStep_frame (s : State) :
    (orphanStep s).phase = s.phase ∧ (orphanStep s).loadNext = s.loadNext ∧ (orphanStep s).link = s.link ∧
    (orphanStep s).ops = s.ops ∧ (orphanStep s).stamps = s.stamps ∧ (orphanStep s).linkOut = s.linkOut ∧
    (orphanStep s).table = s.table ∧ (orphanStep s).wbQueue = s.wbQueue ∧
    (orphanStep s).verifyQueue = s.verifyQueue ∧ (orphanStep s).patrol = s.patrol ∧
    (orphanStep s).quiet = s.quiet ∧ (orphanStep s).hold = s.hold ∧ (orphanStep s).spares = s.spares ∧
    (orphanStep s).queue = s.queue ∧ (orphanStep s).store = s.store ∧ (orphanStep s).persist = s.persist ∧
    (orphanStep s).params = s.params ∧ (orphanStep s).counters = s.counters ∧ (orphanStep s).attn = s.attn ∧
    (orphanStep s).port = s.port ∧ (orphanStep s).media = s.media ∧ (orphanStep s).pending = s.pending := by
  unfold orphanStep
  (repeat' split) <;> simp

@[simp] theorem failAttempt_frame (r : Record) (d : SpareIdx) (s : State) :
    (failAttempt r d s).phase = s.phase ∧ (failAttempt r d s).loadNext = s.loadNext ∧
    (failAttempt r d s).link = s.link ∧ (failAttempt r d s).ops = s.ops ∧ (failAttempt r d s).stamps = s.stamps ∧
    (failAttempt r d s).linkOut = s.linkOut ∧ (failAttempt r d s).wbQueue = s.wbQueue ∧
    (failAttempt r d s).verifyQueue = s.verifyQueue ∧ (failAttempt r d s).patrol = s.patrol ∧
    (failAttempt r d s).quiet = s.quiet ∧ (failAttempt r d s).hold = s.hold ∧
    (failAttempt r d s).store = s.store ∧ (failAttempt r d s).params = s.params ∧
    (failAttempt r d s).port = s.port ∧ (failAttempt r d s).media = s.media ∧
    (failAttempt r d s).pending = s.pending := by
  unfold failAttempt
  dsimp only
  (repeat' split) <;> simp

@[simp] theorem reportFailure_frame (l : LineAddr) (d : SpareIdx) (s : State) :
    (reportFailure l d s).phase = s.phase ∧ (reportFailure l d s).loadNext = s.loadNext ∧
    (reportFailure l d s).link = s.link ∧ (reportFailure l d s).ops = s.ops ∧
    (reportFailure l d s).stamps = s.stamps ∧ (reportFailure l d s).linkOut = s.linkOut ∧
    (reportFailure l d s).wbQueue = s.wbQueue ∧ (reportFailure l d s).verifyQueue = s.verifyQueue ∧
    (reportFailure l d s).patrol = s.patrol ∧ (reportFailure l d s).quiet = s.quiet ∧
    (reportFailure l d s).hold = s.hold ∧ (reportFailure l d s).store = s.store ∧
    (reportFailure l d s).params = s.params ∧ (reportFailure l d s).port = s.port ∧
    (reportFailure l d s).media = s.media ∧ (reportFailure l d s).pending = s.pending := by
  unfold reportFailure
  (repeat' split) <;> simp

@[simp] theorem completeMigration_frame (r : Record) (d : SpareIdx) (s : State) :
    (completeMigration r d s).phase = s.phase ∧ (completeMigration r d s).loadNext = s.loadNext ∧
    (completeMigration r d s).link = s.link ∧ (completeMigration r d s).ops = s.ops ∧
    (completeMigration r d s).stamps = s.stamps ∧ (completeMigration r d s).linkOut = s.linkOut ∧
    (completeMigration r d s).wbQueue = s.wbQueue ∧ (completeMigration r d s).verifyQueue = s.verifyQueue ∧
    (completeMigration r d s).patrol = s.patrol ∧ (completeMigration r d s).quiet = s.quiet ∧
    (completeMigration r d s).hold = s.hold ∧ (completeMigration r d s).slot = s.slot ∧
    (completeMigration r d s).store = s.store ∧ (completeMigration r d s).params = s.params ∧
    (completeMigration r d s).port = s.port ∧ (completeMigration r d s).media = s.media ∧
    (completeMigration r d s).pending = s.pending := by
  unfold completeMigration
  (repeat' split) <;> simp

@[simp] theorem endStep_frame (s : State) :
    (endStep s).phase = s.phase ∧ (endStep s).loadNext = s.loadNext ∧ (endStep s).link = s.link ∧
    (endStep s).ops = s.ops ∧ (endStep s).stamps = s.stamps ∧ (endStep s).linkOut = s.linkOut ∧
    (endStep s).table = s.table ∧ (endStep s).wbQueue = s.wbQueue ∧ (endStep s).verifyQueue = s.verifyQueue ∧
    (endStep s).patrol = s.patrol ∧ (endStep s).quiet = s.quiet ∧ (endStep s).hold = s.hold ∧
    (endStep s).spares = s.spares ∧ (endStep s).queue = s.queue ∧ (endStep s).store = s.store ∧
    (endStep s).persist = s.persist ∧ (endStep s).params = s.params ∧ (endStep s).counters = s.counters ∧
    (endStep s).attn = s.attn ∧ (endStep s).port = s.port ∧ (endStep s).media = s.media ∧
    (endStep s).pending = s.pending := by
  simp [endStep]

@[simp] theorem endColumn_frame (l : LineAddr) (s : State) :
    (endColumn l s).phase = s.phase ∧ (endColumn l s).loadNext = s.loadNext ∧ (endColumn l s).link = s.link ∧
    (endColumn l s).ops = s.ops ∧ (endColumn l s).stamps = s.stamps ∧ (endColumn l s).linkOut = s.linkOut ∧
    (endColumn l s).wbQueue = s.wbQueue ∧ (endColumn l s).verifyQueue = s.verifyQueue ∧
    (endColumn l s).patrol = s.patrol ∧ (endColumn l s).quiet = s.quiet ∧ (endColumn l s).hold = s.hold ∧
    (endColumn l s).spares = s.spares ∧ (endColumn l s).queue = s.queue ∧ (endColumn l s).store = s.store ∧
    (endColumn l s).persist = s.persist ∧ (endColumn l s).params = s.params ∧
    (endColumn l s).counters = s.counters ∧ (endColumn l s).attn = s.attn ∧ (endColumn l s).port = s.port ∧
    (endColumn l s).media = s.media ∧ (endColumn l s).pending = s.pending := by
  simp [endColumn]

@[simp] theorem issueCopyWrite_frame (l : LineAddr) (c : LineContent) (s : State) :
    (issueCopyWrite l c s).phase = s.phase ∧ (issueCopyWrite l c s).loadNext = s.loadNext ∧
    (issueCopyWrite l c s).link = s.link ∧ (issueCopyWrite l c s).linkOut = s.linkOut ∧
    (issueCopyWrite l c s).table = s.table ∧ (issueCopyWrite l c s).wbQueue = s.wbQueue ∧
    (issueCopyWrite l c s).verifyQueue = s.verifyQueue ∧ (issueCopyWrite l c s).patrol = s.patrol ∧
    (issueCopyWrite l c s).quiet = s.quiet ∧ (issueCopyWrite l c s).hold = s.hold ∧
    (issueCopyWrite l c s).slot = s.slot ∧ (issueCopyWrite l c s).spares = s.spares ∧
    (issueCopyWrite l c s).queue = s.queue ∧ (issueCopyWrite l c s).store = s.store ∧
    (issueCopyWrite l c s).persist = s.persist ∧ (issueCopyWrite l c s).params = s.params ∧
    (issueCopyWrite l c s).counters = s.counters ∧ (issueCopyWrite l c s).attn = s.attn ∧
    (issueCopyWrite l c s).port = s.port ∧ (issueCopyWrite l c s).media = s.media ∧
    (issueCopyWrite l c s).pending = s.pending := by
  unfold issueCopyWrite
  (repeat' split) <;> simp

@[simp] theorem hostWriteEndsColumn_frame (l : LineAddr) (s : State) :
    (hostWriteEndsColumn l s).phase = s.phase ∧ (hostWriteEndsColumn l s).loadNext = s.loadNext ∧
    (hostWriteEndsColumn l s).link = s.link ∧ (hostWriteEndsColumn l s).ops = s.ops ∧
    (hostWriteEndsColumn l s).stamps = s.stamps ∧ (hostWriteEndsColumn l s).linkOut = s.linkOut ∧
    (hostWriteEndsColumn l s).wbQueue = s.wbQueue ∧ (hostWriteEndsColumn l s).verifyQueue = s.verifyQueue ∧
    (hostWriteEndsColumn l s).patrol = s.patrol ∧ (hostWriteEndsColumn l s).quiet = s.quiet ∧
    (hostWriteEndsColumn l s).hold = s.hold ∧ (hostWriteEndsColumn l s).spares = s.spares ∧
    (hostWriteEndsColumn l s).queue = s.queue ∧ (hostWriteEndsColumn l s).store = s.store ∧
    (hostWriteEndsColumn l s).persist = s.persist ∧ (hostWriteEndsColumn l s).params = s.params ∧
    (hostWriteEndsColumn l s).counters = s.counters ∧ (hostWriteEndsColumn l s).attn = s.attn ∧
    (hostWriteEndsColumn l s).port = s.port ∧ (hostWriteEndsColumn l s).media = s.media ∧
    (hostWriteEndsColumn l s).pending = s.pending := by
  unfold hostWriteEndsColumn
  (repeat' split) <;> simp

@[simp] theorem hostWriteGivenUp_frame (l : LineAddr) (s : State) :
    (hostWriteGivenUp l s).phase = s.phase ∧ (hostWriteGivenUp l s).loadNext = s.loadNext ∧
    (hostWriteGivenUp l s).link = s.link ∧ (hostWriteGivenUp l s).linkOut = s.linkOut ∧
    (hostWriteGivenUp l s).table = s.table ∧ (hostWriteGivenUp l s).wbQueue = s.wbQueue ∧
    (hostWriteGivenUp l s).verifyQueue = s.verifyQueue ∧ (hostWriteGivenUp l s).patrol = s.patrol ∧
    (hostWriteGivenUp l s).quiet = s.quiet ∧ (hostWriteGivenUp l s).hold = s.hold ∧
    (hostWriteGivenUp l s).slot = s.slot ∧ (hostWriteGivenUp l s).spares = s.spares ∧
    (hostWriteGivenUp l s).queue = s.queue ∧ (hostWriteGivenUp l s).store = s.store ∧
    (hostWriteGivenUp l s).persist = s.persist ∧ (hostWriteGivenUp l s).params = s.params ∧
    (hostWriteGivenUp l s).counters = s.counters ∧ (hostWriteGivenUp l s).attn = s.attn ∧
    (hostWriteGivenUp l s).port = s.port ∧ (hostWriteGivenUp l s).media = s.media ∧
    (hostWriteGivenUp l s).pending = s.pending := by
  unfold hostWriteGivenUp
  (repeat' split) <;> simp

end Sys2Proof.Machine
end

