-- ==== Sys2Proof/Laws/FaultTable.lean ====
section
/-! SUPPORT. Laws/FaultTable.lean: what each operation of the Fault Table leaves untouched. -/

namespace Sys2Proof.Machine

/-- All that a creation can do: room is made, and the new record joins the end of the age list in the slot found. -/
theorem createRecord_spec {key : RowKey} {origin : Origin} {change : Record → Record} {s s' : State} {r : Record}
    (h : createRecord key origin change s = some (r, s')) :
    ∃ n t, makeRoom s.table = some (n, t) ∧ r = change (.fresh n key origin) ∧ s' = s.setTable (t ++ [r]) := by
  obtain ⟨⟨n, t⟩, hm, hx⟩ := Option.map_eq_some_iff.1 h
  cases hx
  exact ⟨n, t, hm, rfl, rfl⟩

@[simp] theorem releaseRecord_frame (k : RowKey) (s : State) :
    (releaseRecord k s).phase = s.phase ∧ (releaseRecord k s).loadNext = s.loadNext ∧
    (releaseRecord k s).link = s.link ∧ (releaseRecord k s).ops = s.ops ∧ (releaseRecord k s).stamps = s.stamps ∧
    (releaseRecord k s).linkOut = s.linkOut ∧ (releaseRecord k s).wbQueue = s.wbQueue ∧
    (releaseRecord k s).verifyQueue = s.verifyQueue ∧ (releaseRecord k s).patrol = s.patrol ∧
    (releaseRecord k s).quiet = s.quiet ∧ (releaseRecord k s).hold = s.hold ∧ (releaseRecord k s).slot = s.slot ∧
    (releaseRecord k s).spares = s.spares ∧ (releaseRecord k s).engine = s.engine ∧
    (releaseRecord k s).store = s.store ∧ (releaseRecord k s).persist = s.persist ∧
    (releaseRecord k s).params = s.params ∧ (releaseRecord k s).counters = s.counters ∧
    (releaseRecord k s).attn = s.attn ∧ (releaseRecord k s).port = s.port ∧ (releaseRecord k s).media = s.media ∧
    (releaseRecord k s).pending = s.pending := by
  simp [releaseRecord]

@[simp] theorem enqueue_frame (k : RowKey) (u : Bool) (s : State) :
    (enqueue k u s).phase = s.phase ∧ (enqueue k u s).loadNext = s.loadNext ∧ (enqueue k u s).link = s.link ∧
    (enqueue k u s).ops = s.ops ∧ (enqueue k u s).stamps = s.stamps ∧ (enqueue k u s).linkOut = s.linkOut ∧
    (enqueue k u s).wbQueue = s.wbQueue ∧ (enqueue k u s).verifyQueue = s.verifyQueue ∧
    (enqueue k u s).patrol = s.patrol ∧ (enqueue k u s).quiet = s.quiet ∧ (enqueue k u s).hold = s.hold ∧
    (enqueue k u s).slot = s.slot ∧ (enqueue k u s).store = s.store ∧ (enqueue k u s).persist = s.persist ∧
    (enqueue k u s).params = s.params ∧ (enqueue k u s).counters = s.counters ∧ (enqueue k u s).port = s.port ∧
    (enqueue k u s).media = s.media ∧ (enqueue k u s).pending = s.pending := by
  simp [enqueue]

@[simp] theorem applyVerdict_frame (r : Record) (v : Verdict) (s : State) :
    (applyVerdict r v s).phase = s.phase ∧ (applyVerdict r v s).loadNext = s.loadNext ∧
    (applyVerdict r v s).link = s.link ∧ (applyVerdict r v s).ops = s.ops ∧
    (applyVerdict r v s).stamps = s.stamps ∧ (applyVerdict r v s).linkOut = s.linkOut ∧
    (applyVerdict r v s).wbQueue = s.wbQueue ∧ (applyVerdict r v s).verifyQueue = s.verifyQueue ∧
    (applyVerdict r v s).patrol = s.patrol ∧ (applyVerdict r v s).quiet = s.quiet ∧
    (applyVerdict r v s).hold = s.hold ∧ (applyVerdict r v s).slot = s.slot ∧
    (applyVerdict r v s).store = s.store ∧ (applyVerdict r v s).persist = s.persist ∧
    (applyVerdict r v s).params = s.params ∧ (applyVerdict r v s).counters = s.counters ∧
    (applyVerdict r v s).port = s.port ∧ (applyVerdict r v s).media = s.media ∧
    (applyVerdict r v s).pending = s.pending := by
  unfold applyVerdict
  (repeat' split) <;> simp

@[simp] theorem countEvent_frame (ev : ErrorEvent) (s : State) :
    (countEvent ev s).phase = s.phase ∧ (countEvent ev s).loadNext = s.loadNext ∧
    (countEvent ev s).link = s.link ∧ (countEvent ev s).ops = s.ops ∧ (countEvent ev s).stamps = s.stamps ∧
    (countEvent ev s).linkOut = s.linkOut ∧ (countEvent ev s).table = s.table ∧
    (countEvent ev s).wbQueue = s.wbQueue ∧ (countEvent ev s).verifyQueue = s.verifyQueue ∧
    (countEvent ev s).patrol = s.patrol ∧ (countEvent ev s).quiet = s.quiet ∧ (countEvent ev s).hold = s.hold ∧
    (countEvent ev s).slot = s.slot ∧ (countEvent ev s).spares = s.spares ∧ (countEvent ev s).queue = s.queue ∧
    (countEvent ev s).engine = s.engine ∧ (countEvent ev s).store = s.store ∧
    (countEvent ev s).persist = s.persist ∧ (countEvent ev s).params = s.params ∧
    (countEvent ev s).attn = s.attn ∧ (countEvent ev s).port = s.port ∧ (countEvent ev s).media = s.media ∧
    (countEvent ev s).pending = s.pending := by
  unfold countEvent
  (repeat' split) <;> simp

@[simp] theorem applyEvent_frame (ev : ErrorEvent) (r : Record) (s : State) :
    (applyEvent ev r s).phase = s.phase ∧ (applyEvent ev r s).loadNext = s.loadNext ∧
    (applyEvent ev r s).link = s.link ∧ (applyEvent ev r s).ops = s.ops ∧ (applyEvent ev r s).stamps = s.stamps ∧
    (applyEvent ev r s).linkOut = s.linkOut ∧ (applyEvent ev r s).wbQueue = s.wbQueue ∧
    (applyEvent ev r s).verifyQueue = s.verifyQueue ∧ (applyEvent ev r s).patrol = s.patrol ∧
    (applyEvent ev r s).quiet = s.quiet ∧ (applyEvent ev r s).hold = s.hold ∧ (applyEvent ev r s).slot = s.slot ∧
    (applyEvent ev r s).store = s.store ∧ (applyEvent ev r s).persist = s.persist ∧
    (applyEvent ev r s).params = s.params ∧ (applyEvent ev r s).counters = s.counters ∧
    (applyEvent ev r s).port = s.port ∧ (applyEvent ev r s).media = s.media ∧
    (applyEvent ev r s).pending = s.pending := by
  unfold applyEvent
  (repeat' split) <;> simp

@[simp] theorem untracked_frame (ev : ErrorEvent) (s : State) :
    (untracked ev s).phase = s.phase ∧ (untracked ev s).loadNext = s.loadNext ∧ (untracked ev s).link = s.link ∧
    (untracked ev s).ops = s.ops ∧ (untracked ev s).stamps = s.stamps ∧ (untracked ev s).linkOut = s.linkOut ∧
    (untracked ev s).table = s.table ∧ (untracked ev s).wbQueue = s.wbQueue ∧
    (untracked ev s).verifyQueue = s.verifyQueue ∧ (untracked ev s).patrol = s.patrol ∧
    (untracked ev s).quiet = s.quiet ∧ (untracked ev s).hold = s.hold ∧ (untracked ev s).slot = s.slot ∧
    (untracked ev s).spares = s.spares ∧ (untracked ev s).queue = s.queue ∧ (untracked ev s).engine = s.engine ∧
    (untracked ev s).store = s.store ∧ (untracked ev s).persist = s.persist ∧ (untracked ev s).params = s.params ∧
    (untracked ev s).port = s.port ∧ (untracked ev s).media = s.media ∧ (untracked ev s).pending = s.pending := by
  unfold untracked
  (repeat' split) <;> simp

@[simp] theorem receiveEvent_frame (ev : ErrorEvent) (s : State) :
    (receiveEvent ev s).phase = s.phase ∧ (receiveEvent ev s).loadNext = s.loadNext ∧
    (receiveEvent ev s).link = s.link ∧ (receiveEvent ev s).ops = s.ops ∧ (receiveEvent ev s).stamps = s.stamps ∧
    (receiveEvent ev s).linkOut = s.linkOut ∧ (receiveEvent ev s).wbQueue = s.wbQueue ∧
    (receiveEvent ev s).verifyQueue = s.verifyQueue ∧ (receiveEvent ev s).patrol = s.patrol ∧
    (receiveEvent ev s).quiet = s.quiet ∧ (receiveEvent ev s).hold = s.hold ∧ (receiveEvent ev s).slot = s.slot ∧
    (receiveEvent ev s).store = s.store ∧ (receiveEvent ev s).persist = s.persist ∧
    (receiveEvent ev s).params = s.params ∧ (receiveEvent ev s).port = s.port ∧
    (receiveEvent ev s).media = s.media ∧ (receiveEvent ev s).pending = s.pending := by
  unfold receiveEvent
  dsimp only
  split
  · simp
  · split
    · rename_i h
      obtain ⟨_, _, -, -, rfl⟩ := createRecord_spec h
      simp
    · simp

@[simp] theorem decayAll_frame (s : State) :
    (decayAll s).phase = s.phase ∧ (decayAll s).loadNext = s.loadNext ∧ (decayAll s).link = s.link ∧
    (decayAll s).ops = s.ops ∧ (decayAll s).stamps = s.stamps ∧ (decayAll s).linkOut = s.linkOut ∧
    (decayAll s).wbQueue = s.wbQueue ∧ (decayAll s).verifyQueue = s.verifyQueue ∧ (decayAll s).patrol = s.patrol ∧
    (decayAll s).quiet = s.quiet ∧ (decayAll s).hold = s.hold ∧ (decayAll s).slot = s.slot ∧
    (decayAll s).spares = s.spares ∧ (decayAll s).queue = s.queue ∧ (decayAll s).engine = s.engine ∧
    (decayAll s).store = s.store ∧ (decayAll s).persist = s.persist ∧ (decayAll s).params = s.params ∧
    (decayAll s).counters = s.counters ∧ (decayAll s).attn = s.attn ∧ (decayAll s).port = s.port ∧
    (decayAll s).media = s.media ∧ (decayAll s).pending = s.pending := by
  simp [decayAll]

end Sys2Proof.Machine
end

