-- ==== Sys2Proof/Laws/Patrol.lean ====
section
/-! SUPPORT. Laws/Patrol.lean: what each operation of the Patrol Engine leaves untouched. -/

namespace Sys2Proof.Machine

@[simp] theorem completePass_frame (s : State) :
    (completePass s).phase = s.phase ∧ (completePass s).loadNext = s.loadNext ∧ (completePass s).link = s.link ∧
    (completePass s).ops = s.ops ∧ (completePass s).stamps = s.stamps ∧ (completePass s).linkOut = s.linkOut ∧
    (completePass s).wbQueue = s.wbQueue ∧ (completePass s).verifyQueue = s.verifyQueue ∧
    (completePass s).quiet = s.quiet ∧ (completePass s).hold = s.hold ∧ (completePass s).slot = s.slot ∧
    (completePass s).spares = s.spares ∧ (completePass s).queue = s.queue ∧ (completePass s).engine = s.engine ∧
    (completePass s).store = s.store ∧ (completePass s).persist = s.persist ∧ (completePass s).params = s.params ∧
    (completePass s).counters = s.counters ∧ (completePass s).attn = s.attn ∧ (completePass s).port = s.port ∧
    (completePass s).media = s.media ∧ (completePass s).pending = s.pending := by
  simp [completePass]

@[simp] theorem advanceCursor_frame (s : State) :
    (advanceCursor s).phase = s.phase ∧ (advanceCursor s).loadNext = s.loadNext ∧
    (advanceCursor s).link = s.link ∧ (advanceCursor s).ops = s.ops ∧ (advanceCursor s).stamps = s.stamps ∧
    (advanceCursor s).linkOut = s.linkOut ∧ (advanceCursor s).wbQueue = s.wbQueue ∧
    (advanceCursor s).verifyQueue = s.verifyQueue ∧ (advanceCursor s).quiet = s.quiet ∧
    (advanceCursor s).hold = s.hold ∧ (advanceCursor s).slot = s.slot ∧ (advanceCursor s).spares = s.spares ∧
    (advanceCursor s).queue = s.queue ∧ (advanceCursor s).engine = s.engine ∧ (advanceCursor s).store = s.store ∧
    (advanceCursor s).persist = s.persist ∧ (advanceCursor s).params = s.params ∧
    (advanceCursor s).counters = s.counters ∧ (advanceCursor s).attn = s.attn ∧ (advanceCursor s).port = s.port ∧
    (advanceCursor s).media = s.media ∧ (advanceCursor s).pending = s.pending := by
  unfold advanceCursor
  (repeat' split) <;> simp

@[simp] theorem completeRow_frame (s : State) :
    (completeRow s).phase = s.phase ∧ (completeRow s).loadNext = s.loadNext ∧ (completeRow s).link = s.link ∧
    (completeRow s).ops = s.ops ∧ (completeRow s).stamps = s.stamps ∧ (completeRow s).linkOut = s.linkOut ∧
    (completeRow s).wbQueue = s.wbQueue ∧ (completeRow s).verifyQueue = s.verifyQueue ∧
    (completeRow s).quiet = s.quiet ∧ (completeRow s).hold = s.hold ∧ (completeRow s).slot = s.slot ∧
    (completeRow s).spares = s.spares ∧ (completeRow s).queue = s.queue ∧ (completeRow s).engine = s.engine ∧
    (completeRow s).store = s.store ∧ (completeRow s).persist = s.persist ∧ (completeRow s).params = s.params ∧
    (completeRow s).counters = s.counters ∧ (completeRow s).attn = s.attn ∧ (completeRow s).port = s.port ∧
    (completeRow s).media = s.media ∧ (completeRow s).pending = s.pending := by
  simp [completeRow]

@[simp] theorem beginRows_frame (n : Nat) (s : State) :
    (beginRows n s).phase = s.phase ∧ (beginRows n s).loadNext = s.loadNext ∧ (beginRows n s).link = s.link ∧
    (beginRows n s).ops = s.ops ∧ (beginRows n s).stamps = s.stamps ∧ (beginRows n s).linkOut = s.linkOut ∧
    (beginRows n s).wbQueue = s.wbQueue ∧ (beginRows n s).verifyQueue = s.verifyQueue ∧
    (beginRows n s).quiet = s.quiet ∧ (beginRows n s).hold = s.hold ∧ (beginRows n s).slot = s.slot ∧
    (beginRows n s).spares = s.spares ∧ (beginRows n s).queue = s.queue ∧ (beginRows n s).engine = s.engine ∧
    (beginRows n s).store = s.store ∧ (beginRows n s).persist = s.persist ∧ (beginRows n s).params = s.params ∧
    (beginRows n s).counters = s.counters ∧ (beginRows n s).attn = s.attn ∧ (beginRows n s).port = s.port ∧
    (beginRows n s).media = s.media ∧ (beginRows n s).pending = s.pending := by
  induction n generalizing s with
  | zero => simp [beginRows]
  | succ n ih =>
    unfold beginRows
    repeat' (first | split | (dsimp only; split))
    all_goals simp [ih]

@[simp] theorem beginRow_frame (s : State) :
    (beginRow s).phase = s.phase ∧ (beginRow s).loadNext = s.loadNext ∧ (beginRow s).link = s.link ∧
    (beginRow s).ops = s.ops ∧ (beginRow s).stamps = s.stamps ∧ (beginRow s).linkOut = s.linkOut ∧
    (beginRow s).wbQueue = s.wbQueue ∧ (beginRow s).verifyQueue = s.verifyQueue ∧ (beginRow s).quiet = s.quiet ∧
    (beginRow s).hold = s.hold ∧ (beginRow s).slot = s.slot ∧ (beginRow s).spares = s.spares ∧
    (beginRow s).queue = s.queue ∧ (beginRow s).engine = s.engine ∧ (beginRow s).store = s.store ∧
    (beginRow s).persist = s.persist ∧ (beginRow s).params = s.params ∧ (beginRow s).counters = s.counters ∧
    (beginRow s).attn = s.attn ∧ (beginRow s).port = s.port ∧ (beginRow s).media = s.media ∧
    (beginRow s).pending = s.pending := by
  simp [beginRow]

@[simp] theorem restartPace_frame (s : State) :
    (restartPace s).phase = s.phase ∧ (restartPace s).loadNext = s.loadNext ∧ (restartPace s).link = s.link ∧
    (restartPace s).ops = s.ops ∧ (restartPace s).stamps = s.stamps ∧ (restartPace s).linkOut = s.linkOut ∧
    (restartPace s).table = s.table ∧ (restartPace s).wbQueue = s.wbQueue ∧
    (restartPace s).verifyQueue = s.verifyQueue ∧ (restartPace s).quiet = s.quiet ∧
    (restartPace s).hold = s.hold ∧ (restartPace s).slot = s.slot ∧ (restartPace s).spares = s.spares ∧
    (restartPace s).queue = s.queue ∧ (restartPace s).engine = s.engine ∧ (restartPace s).store = s.store ∧
    (restartPace s).persist = s.persist ∧ (restartPace s).params = s.params ∧
    (restartPace s).counters = s.counters ∧ (restartPace s).attn = s.attn ∧ (restartPace s).port = s.port ∧
    (restartPace s).media = s.media ∧ (restartPace s).pending = s.pending := by
  unfold restartPace
  (repeat' split) <;> simp

@[simp] theorem maskChanged_frame (s : State) :
    (maskChanged s).phase = s.phase ∧ (maskChanged s).loadNext = s.loadNext ∧ (maskChanged s).link = s.link ∧
    (maskChanged s).ops = s.ops ∧ (maskChanged s).stamps = s.stamps ∧ (maskChanged s).linkOut = s.linkOut ∧
    (maskChanged s).wbQueue = s.wbQueue ∧ (maskChanged s).verifyQueue = s.verifyQueue ∧
    (maskChanged s).quiet = s.quiet ∧ (maskChanged s).hold = s.hold ∧ (maskChanged s).slot = s.slot ∧
    (maskChanged s).spares = s.spares ∧ (maskChanged s).queue = s.queue ∧ (maskChanged s).engine = s.engine ∧
    (maskChanged s).store = s.store ∧ (maskChanged s).persist = s.persist ∧ (maskChanged s).params = s.params ∧
    (maskChanged s).counters = s.counters ∧ (maskChanged s).attn = s.attn ∧ (maskChanged s).port = s.port ∧
    (maskChanged s).media = s.media ∧ (maskChanged s).pending = s.pending := by
  unfold maskChanged
  dsimp only
  (repeat' split) <;> simp

@[simp] theorem earnCredit_frame (s : State) :
    (earnCredit s).phase = s.phase ∧ (earnCredit s).loadNext = s.loadNext ∧ (earnCredit s).link = s.link ∧
    (earnCredit s).ops = s.ops ∧ (earnCredit s).stamps = s.stamps ∧ (earnCredit s).linkOut = s.linkOut ∧
    (earnCredit s).table = s.table ∧ (earnCredit s).wbQueue = s.wbQueue ∧
    (earnCredit s).verifyQueue = s.verifyQueue ∧ (earnCredit s).quiet = s.quiet ∧ (earnCredit s).hold = s.hold ∧
    (earnCredit s).slot = s.slot ∧ (earnCredit s).spares = s.spares ∧ (earnCredit s).queue = s.queue ∧
    (earnCredit s).engine = s.engine ∧ (earnCredit s).store = s.store ∧ (earnCredit s).persist = s.persist ∧
    (earnCredit s).params = s.params ∧ (earnCredit s).port = s.port ∧ (earnCredit s).media = s.media ∧
    (earnCredit s).pending = s.pending := by
  unfold earnCredit
  (repeat' split) <;> simp

end Sys2Proof.Machine
end

