-- ==== Sys2Proof/Laws/Queues.lean ====
section
/-! SUPPORT. Laws/Queues.lean: what each operation of the two queues, and each handing on of a decode, leaves untouched. -/

namespace Sys2Proof.Machine

@[simp] theorem writeNotice_frame (l : LineAddr) (s : State) :
    (writeNotice l s).phase = s.phase ∧ (writeNotice l s).loadNext = s.loadNext ∧
    (writeNotice l s).link = s.link ∧ (writeNotice l s).stamps = s.stamps ∧
    (writeNotice l s).linkOut = s.linkOut ∧ (writeNotice l s).table = s.table ∧
    (writeNotice l s).verifyQueue = s.verifyQueue ∧ (writeNotice l s).patrol = s.patrol ∧
    (writeNotice l s).quiet = s.quiet ∧ (writeNotice l s).hold = s.hold ∧ (writeNotice l s).slot = s.slot ∧
    (writeNotice l s).spares = s.spares ∧ (writeNotice l s).queue = s.queue ∧
    (writeNotice l s).engine = s.engine ∧ (writeNotice l s).store = s.store ∧
    (writeNotice l s).persist = s.persist ∧ (writeNotice l s).params = s.params ∧
    (writeNotice l s).attn = s.attn ∧ (writeNotice l s).port = s.port ∧ (writeNotice l s).media = s.media ∧
    (writeNotice l s).pending = s.pending := by
  unfold writeNotice
  dsimp only
  (repeat' split) <;> simp

@[simp] theorem requestWriteback_frame (l : LineAddr) (c : LineContent) (o : Bool) (s : State) :
    (requestWriteback l c o s).phase = s.phase ∧ (requestWriteback l c o s).loadNext = s.loadNext ∧
    (requestWriteback l c o s).link = s.link ∧ (requestWriteback l c o s).ops = s.ops ∧
    (requestWriteback l c o s).stamps = s.stamps ∧ (requestWriteback l c o s).linkOut = s.linkOut ∧
    (requestWriteback l c o s).table = s.table ∧ (requestWriteback l c o s).verifyQueue = s.verifyQueue ∧
    (requestWriteback l c o s).patrol = s.patrol ∧ (requestWriteback l c o s).quiet = s.quiet ∧
    (requestWriteback l c o s).hold = s.hold ∧ (requestWriteback l c o s).slot = s.slot ∧
    (requestWriteback l c o s).spares = s.spares ∧ (requestWriteback l c o s).queue = s.queue ∧
    (requestWriteback l c o s).engine = s.engine ∧ (requestWriteback l c o s).store = s.store ∧
    (requestWriteback l c o s).persist = s.persist ∧ (requestWriteback l c o s).params = s.params ∧
    (requestWriteback l c o s).attn = s.attn ∧ (requestWriteback l c o s).port = s.port ∧
    (requestWriteback l c o s).media = s.media ∧ (requestWriteback l c o s).pending = s.pending := by
  unfold requestWriteback
  (repeat' split) <;> simp

@[simp] theorem requestVerify_frame (l : LineAddr) (s : State) :
    (requestVerify l s).phase = s.phase ∧ (requestVerify l s).loadNext = s.loadNext ∧
    (requestVerify l s).link = s.link ∧ (requestVerify l s).ops = s.ops ∧ (requestVerify l s).stamps = s.stamps ∧
    (requestVerify l s).linkOut = s.linkOut ∧ (requestVerify l s).table = s.table ∧
    (requestVerify l s).wbQueue = s.wbQueue ∧ (requestVerify l s).patrol = s.patrol ∧
    (requestVerify l s).quiet = s.quiet ∧ (requestVerify l s).hold = s.hold ∧ (requestVerify l s).slot = s.slot ∧
    (requestVerify l s).spares = s.spares ∧ (requestVerify l s).queue = s.queue ∧
    (requestVerify l s).engine = s.engine ∧ (requestVerify l s).store = s.store ∧
    (requestVerify l s).persist = s.persist ∧ (requestVerify l s).params = s.params ∧
    (requestVerify l s).attn = s.attn ∧ (requestVerify l s).port = s.port ∧ (requestVerify l s).media = s.media ∧
    (requestVerify l s).pending = s.pending := by
  unfold requestVerify
  (repeat' split) <;> simp

@[simp] theorem handEvent_frame (d : Decode) (o : Origin) (s : State) :
    (handEvent d o s).phase = s.phase ∧ (handEvent d o s).loadNext = s.loadNext ∧
    (handEvent d o s).link = s.link ∧ (handEvent d o s).ops = s.ops ∧ (handEvent d o s).stamps = s.stamps ∧
    (handEvent d o s).linkOut = s.linkOut ∧ (handEvent d o s).wbQueue = s.wbQueue ∧
    (handEvent d o s).verifyQueue = s.verifyQueue ∧ (handEvent d o s).patrol = s.patrol ∧
    (handEvent d o s).quiet = s.quiet ∧ (handEvent d o s).hold = s.hold ∧ (handEvent d o s).slot = s.slot ∧
    (handEvent d o s).store = s.store ∧ (handEvent d o s).persist = s.persist ∧
    (handEvent d o s).params = s.params ∧ (handEvent d o s).port = s.port ∧ (handEvent d o s).media = s.media ∧
    (handEvent d o s).pending = s.pending := by
  unfold handEvent
  (repeat' split) <;> simp

@[simp] theorem handWriteback_frame (d : Decode) (o : Bool) (s : State) :
    (handWriteback d o s).phase = s.phase ∧ (handWriteback d o s).loadNext = s.loadNext ∧
    (handWriteback d o s).link = s.link ∧ (handWriteback d o s).ops = s.ops ∧
    (handWriteback d o s).stamps = s.stamps ∧ (handWriteback d o s).linkOut = s.linkOut ∧
    (handWriteback d o s).table = s.table ∧ (handWriteback d o s).verifyQueue = s.verifyQueue ∧
    (handWriteback d o s).patrol = s.patrol ∧ (handWriteback d o s).quiet = s.quiet ∧
    (handWriteback d o s).hold = s.hold ∧ (handWriteback d o s).slot = s.slot ∧
    (handWriteback d o s).spares = s.spares ∧ (handWriteback d o s).queue = s.queue ∧
    (handWriteback d o s).engine = s.engine ∧ (handWriteback d o s).store = s.store ∧
    (handWriteback d o s).persist = s.persist ∧ (handWriteback d o s).params = s.params ∧
    (handWriteback d o s).attn = s.attn ∧ (handWriteback d o s).port = s.port ∧
    (handWriteback d o s).media = s.media ∧ (handWriteback d o s).pending = s.pending := by
  unfold handWriteback
  (repeat' split) <;> simp

@[simp] theorem handMark_frame (d : Decode) (o : Bool) (s : State) :
    (handMark d o s).phase = s.phase ∧ (handMark d o s).loadNext = s.loadNext ∧ (handMark d o s).link = s.link ∧
    (handMark d o s).ops = s.ops ∧ (handMark d o s).stamps = s.stamps ∧ (handMark d o s).linkOut = s.linkOut ∧
    (handMark d o s).table = s.table ∧ (handMark d o s).verifyQueue = s.verifyQueue ∧
    (handMark d o s).patrol = s.patrol ∧ (handMark d o s).quiet = s.quiet ∧ (handMark d o s).hold = s.hold ∧
    (handMark d o s).slot = s.slot ∧ (handMark d o s).spares = s.spares ∧ (handMark d o s).queue = s.queue ∧
    (handMark d o s).engine = s.engine ∧ (handMark d o s).store = s.store ∧ (handMark d o s).persist = s.persist ∧
    (handMark d o s).params = s.params ∧ (handMark d o s).attn = s.attn ∧ (handMark d o s).port = s.port ∧
    (handMark d o s).media = s.media ∧ (handMark d o s).pending = s.pending := by
  unfold handMark
  (repeat' split) <;> simp

@[simp] theorem handVerify_frame (d : Decode) (s : State) :
    (handVerify d s).phase = s.phase ∧ (handVerify d s).loadNext = s.loadNext ∧ (handVerify d s).link = s.link ∧
    (handVerify d s).ops = s.ops ∧ (handVerify d s).stamps = s.stamps ∧ (handVerify d s).linkOut = s.linkOut ∧
    (handVerify d s).table = s.table ∧ (handVerify d s).wbQueue = s.wbQueue ∧ (handVerify d s).patrol = s.patrol ∧
    (handVerify d s).quiet = s.quiet ∧ (handVerify d s).hold = s.hold ∧ (handVerify d s).slot = s.slot ∧
    (handVerify d s).spares = s.spares ∧ (handVerify d s).queue = s.queue ∧ (handVerify d s).engine = s.engine ∧
    (handVerify d s).store = s.store ∧ (handVerify d s).persist = s.persist ∧ (handVerify d s).params = s.params ∧
    (handVerify d s).attn = s.attn ∧ (handVerify d s).port = s.port ∧ (handVerify d s).media = s.media ∧
    (handVerify d s).pending = s.pending := by
  unfold handVerify
  (repeat' split) <;> simp

@[simp] theorem reserve_frame (l : LineAddr) (p : Place) (s : State) :
    (reserve l p s).phase = s.phase ∧ (reserve l p s).loadNext = s.loadNext ∧ (reserve l p s).link = s.link ∧
    (reserve l p s).linkOut = s.linkOut ∧ (reserve l p s).wbQueue = s.wbQueue ∧
    (reserve l p s).verifyQueue = s.verifyQueue ∧ (reserve l p s).patrol = s.patrol ∧
    (reserve l p s).quiet = s.quiet ∧ (reserve l p s).hold = s.hold ∧ (reserve l p s).store = s.store ∧
    (reserve l p s).params = s.params ∧ (reserve l p s).port = s.port ∧ (reserve l p s).media = s.media ∧
    (reserve l p s).pending = s.pending := by
  unfold reserve
  (repeat' split) <;> simp

end Sys2Proof.Machine
end

