-- ==== Sys2Proof/Laws/Background.lean ====
section
/-! SUPPORT. Laws/Background.lean: what each background operation and each migration step leaves untouched. -/

namespace Sys2Proof.Machine

@[simp] theorem issueBackground_frame (h : Holder) (o : Op) (s : State) :
    (issueBackground h o s).phase = s.phase ∧ (issueBackground h o s).loadNext = s.loadNext ∧
    (issueBackground h o s).link = s.link ∧ (issueBackground h o s).stamps = s.stamps ∧
    (issueBackground h o s).linkOut = s.linkOut ∧ (issueBackground h o s).table = s.table ∧
    (issueBackground h o s).wbQueue = s.wbQueue ∧ (issueBackground h o s).verifyQueue = s.verifyQueue ∧
    (issueBackground h o s).patrol = s.patrol ∧ (issueBackground h o s).quiet = s.quiet ∧
    (issueBackground h o s).hold = s.hold ∧ (issueBackground h o s).spares = s.spares ∧
    (issueBackground h o s).queue = s.queue ∧ (issueBackground h o s).engine = s.engine ∧
    (issueBackground h o s).store = s.store ∧ (issueBackground h o s).persist = s.persist ∧
    (issueBackground h o s).params = s.params ∧ (issueBackground h o s).counters = s.counters ∧
    (issueBackground h o s).attn = s.attn ∧ (issueBackground h o s).port = s.port ∧
    (issueBackground h o s).media = s.media ∧ (issueBackground h o s).pending = s.pending := by
  simp [issueBackground]

@[simp] theorem issueWriteback_frame (s : State) :
    (issueWriteback s).phase = s.phase ∧ (issueWriteback s).loadNext = s.loadNext ∧
    (issueWriteback s).link = s.link ∧ (issueWriteback s).stamps = s.stamps ∧
    (issueWriteback s).linkOut = s.linkOut ∧ (issueWriteback s).table = s.table ∧
    (issueWriteback s).verifyQueue = s.verifyQueue ∧ (issueWriteback s).patrol = s.patrol ∧
    (issueWriteback s).quiet = s.quiet ∧ (issueWriteback s).hold = s.hold ∧ (issueWriteback s).spares = s.spares ∧
    (issueWriteback s).queue = s.queue ∧ (issueWriteback s).engine = s.engine ∧
    (issueWriteback s).store = s.store ∧ (issueWriteback s).persist = s.persist ∧
    (issueWriteback s).params = s.params ∧ (issueWriteback s).counters = s.counters ∧
    (issueWriteback s).attn = s.attn ∧ (issueWriteback s).port = s.port ∧ (issueWriteback s).media = s.media ∧
    (issueWriteback s).pending = s.pending := by
  unfold issueWriteback
  (repeat' split) <;> simp

@[simp] theorem issueVerify_frame (s : State) :
    (issueVerify s).phase = s.phase ∧ (issueVerify s).loadNext = s.loadNext ∧ (issueVerify s).link = s.link ∧
    (issueVerify s).stamps = s.stamps ∧ (issueVerify s).linkOut = s.linkOut ∧ (issueVerify s).table = s.table ∧
    (issueVerify s).wbQueue = s.wbQueue ∧ (issueVerify s).patrol = s.patrol ∧ (issueVerify s).quiet = s.quiet ∧
    (issueVerify s).hold = s.hold ∧ (issueVerify s).spares = s.spares ∧ (issueVerify s).queue = s.queue ∧
    (issueVerify s).engine = s.engine ∧ (issueVerify s).store = s.store ∧ (issueVerify s).persist = s.persist ∧
    (issueVerify s).params = s.params ∧ (issueVerify s).counters = s.counters ∧ (issueVerify s).attn = s.attn ∧
    (issueVerify s).port = s.port ∧ (issueVerify s).media = s.media ∧ (issueVerify s).pending = s.pending := by
  unfold issueVerify
  (repeat' split) <;> simp

@[simp] theorem issuePatrol_frame (s : State) :
    (issuePatrol s).phase = s.phase ∧ (issuePatrol s).loadNext = s.loadNext ∧ (issuePatrol s).link = s.link ∧
    (issuePatrol s).stamps = s.stamps ∧ (issuePatrol s).linkOut = s.linkOut ∧ (issuePatrol s).table = s.table ∧
    (issuePatrol s).wbQueue = s.wbQueue ∧ (issuePatrol s).verifyQueue = s.verifyQueue ∧
    (issuePatrol s).patrol = s.patrol ∧ (issuePatrol s).quiet = s.quiet ∧ (issuePatrol s).hold = s.hold ∧
    (issuePatrol s).spares = s.spares ∧ (issuePatrol s).queue = s.queue ∧ (issuePatrol s).engine = s.engine ∧
    (issuePatrol s).store = s.store ∧ (issuePatrol s).persist = s.persist ∧ (issuePatrol s).params = s.params ∧
    (issuePatrol s).counters = s.counters ∧ (issuePatrol s).attn = s.attn ∧ (issuePatrol s).port = s.port ∧
    (issuePatrol s).media = s.media ∧ (issuePatrol s).pending = s.pending := by
  unfold issuePatrol
  (repeat' split) <;> simp

@[simp] theorem issueStep_frame (s : State) :
    (issueStep s).phase = s.phase ∧ (issueStep s).loadNext = s.loadNext ∧ (issueStep s).link = s.link ∧
    (issueStep s).stamps = s.stamps ∧ (issueStep s).linkOut = s.linkOut ∧ (issueStep s).table = s.table ∧
    (issueStep s).wbQueue = s.wbQueue ∧ (issueStep s).verifyQueue = s.verifyQueue ∧
    (issueStep s).patrol = s.patrol ∧ (issueStep s).quiet = s.quiet ∧ (issueStep s).hold = s.hold ∧
    (issueStep s).spares = s.spares ∧ (issueStep s).queue = s.queue ∧ (issueStep s).store = s.store ∧
    (issueStep s).persist = s.persist ∧ (issueStep s).params = s.params ∧ (issueStep s).counters = s.counters ∧
    (issueStep s).attn = s.attn ∧ (issueStep s).port = s.port ∧ (issueStep s).media = s.media ∧
    (issueStep s).pending = s.pending := by
  unfold issueStep
  (repeat' split) <;> simp

@[simp] theorem issueFor_frame (c : Claimant) (s : State) :
    (issueFor c s).phase = s.phase ∧ (issueFor c s).loadNext = s.loadNext ∧ (issueFor c s).link = s.link ∧
    (issueFor c s).stamps = s.stamps ∧ (issueFor c s).linkOut = s.linkOut ∧ (issueFor c s).table = s.table ∧
    (issueFor c s).patrol = s.patrol ∧ (issueFor c s).quiet = s.quiet ∧ (issueFor c s).hold = s.hold ∧
    (issueFor c s).spares = s.spares ∧ (issueFor c s).queue = s.queue ∧ (issueFor c s).store = s.store ∧
    (issueFor c s).persist = s.persist ∧ (issueFor c s).params = s.params ∧ (issueFor c s).counters = s.counters ∧
    (issueFor c s).attn = s.attn ∧ (issueFor c s).port = s.port ∧ (issueFor c s).media = s.media ∧
    (issueFor c s).pending = s.pending := by
  unfold issueFor
  (repeat' split) <;> simp

@[simp] theorem finishVerify_frame (l : LineAddr) (o : Op) (d : Decode) (s : State) :
    (finishVerify l o d s).phase = s.phase ∧ (finishVerify l o d s).loadNext = s.loadNext ∧
    (finishVerify l o d s).link = s.link ∧ (finishVerify l o d s).stamps = s.stamps ∧
    (finishVerify l o d s).linkOut = s.linkOut ∧ (finishVerify l o d s).verifyQueue = s.verifyQueue ∧
    (finishVerify l o d s).patrol = s.patrol ∧ (finishVerify l o d s).quiet = s.quiet ∧
    (finishVerify l o d s).hold = s.hold ∧ (finishVerify l o d s).store = s.store ∧
    (finishVerify l o d s).persist = s.persist ∧ (finishVerify l o d s).params = s.params ∧
    (finishVerify l o d s).port = s.port ∧ (finishVerify l o d s).media = s.media ∧
    (finishVerify l o d s).pending = s.pending := by
  simp [finishVerify]

@[simp] theorem nextLine_frame (s : State) :
    (nextLine s).phase = s.phase ∧ (nextLine s).loadNext = s.loadNext ∧ (nextLine s).link = s.link ∧
    (nextLine s).ops = s.ops ∧ (nextLine s).stamps = s.stamps ∧ (nextLine s).linkOut = s.linkOut ∧
    (nextLine s).wbQueue = s.wbQueue ∧ (nextLine s).verifyQueue = s.verifyQueue ∧ (nextLine s).quiet = s.quiet ∧
    (nextLine s).hold = s.hold ∧ (nextLine s).slot = s.slot ∧ (nextLine s).spares = s.spares ∧
    (nextLine s).queue = s.queue ∧ (nextLine s).engine = s.engine ∧ (nextLine s).store = s.store ∧
    (nextLine s).persist = s.persist ∧ (nextLine s).params = s.params ∧ (nextLine s).counters = s.counters ∧
    (nextLine s).attn = s.attn ∧ (nextLine s).port = s.port ∧ (nextLine s).media = s.media ∧
    (nextLine s).pending = s.pending := by
  unfold nextLine
  (repeat' split) <;> simp

@[simp] theorem afterCopyRead_frame (st : MigStep) (c : LineContent) (s : State) :
    (afterCopyRead st c s).phase = s.phase ∧ (afterCopyRead st c s).loadNext = s.loadNext ∧
    (afterCopyRead st c s).link = s.link ∧ (afterCopyRead st c s).linkOut = s.linkOut ∧
    (afterCopyRead st c s).table = s.table ∧ (afterCopyRead st c s).wbQueue = s.wbQueue ∧
    (afterCopyRead st c s).verifyQueue = s.verifyQueue ∧ (afterCopyRead st c s).patrol = s.patrol ∧
    (afterCopyRead st c s).quiet = s.quiet ∧ (afterCopyRead st c s).hold = s.hold ∧
    (afterCopyRead st c s).spares = s.spares ∧ (afterCopyRead st c s).queue = s.queue ∧
    (afterCopyRead st c s).store = s.store ∧ (afterCopyRead st c s).persist = s.persist ∧
    (afterCopyRead st c s).params = s.params ∧ (afterCopyRead st c s).counters = s.counters ∧
    (afterCopyRead st c s).attn = s.attn ∧ (afterCopyRead st c s).port = s.port ∧
    (afterCopyRead st c s).media = s.media ∧ (afterCopyRead st c s).pending = s.pending := by
  unfold afterCopyRead
  (repeat' split) <;> simp

@[simp] theorem passCheck_frame (r : Record) (d : SpareIdx) (s : State) :
    (passCheck r d s).phase = s.phase ∧ (passCheck r d s).loadNext = s.loadNext ∧
    (passCheck r d s).link = s.link ∧ (passCheck r d s).ops = s.ops ∧ (passCheck r d s).stamps = s.stamps ∧
    (passCheck r d s).linkOut = s.linkOut ∧ (passCheck r d s).wbQueue = s.wbQueue ∧
    (passCheck r d s).verifyQueue = s.verifyQueue ∧ (passCheck r d s).patrol = s.patrol ∧
    (passCheck r d s).quiet = s.quiet ∧ (passCheck r d s).hold = s.hold ∧ (passCheck r d s).slot = s.slot ∧
    (passCheck r d s).store = s.store ∧ (passCheck r d s).params = s.params ∧ (passCheck r d s).port = s.port ∧
    (passCheck r d s).media = s.media ∧ (passCheck r d s).pending = s.pending := by
  unfold passCheck
  (repeat' split) <;> simp

@[simp] theorem judgeCheck_frame (st : MigStep) (o : LineOutcome) (s : State) :
    (judgeCheck st o s).phase = s.phase ∧ (judgeCheck st o s).loadNext = s.loadNext ∧
    (judgeCheck st o s).link = s.link ∧ (judgeCheck st o s).ops = s.ops ∧ (judgeCheck st o s).stamps = s.stamps ∧
    (judgeCheck st o s).linkOut = s.linkOut ∧ (judgeCheck st o s).wbQueue = s.wbQueue ∧
    (judgeCheck st o s).verifyQueue = s.verifyQueue ∧ (judgeCheck st o s).patrol = s.patrol ∧
    (judgeCheck st o s).quiet = s.quiet ∧ (judgeCheck st o s).hold = s.hold ∧
    (judgeCheck st o s).store = s.store ∧ (judgeCheck st o s).params = s.params ∧
    (judgeCheck st o s).port = s.port ∧ (judgeCheck st o s).media = s.media ∧
    (judgeCheck st o s).pending = s.pending := by
  unfold judgeCheck
  (repeat' split) <;> simp

end Sys2Proof.Machine
end

