-- ==== Sys2Proof/Laws/Memory.lean ====
section
/-! SUPPORT. Laws/Memory.lean: contents kept by number and the media: a read after a write, and that every operation keeps the
canonical form. -/

namespace Sys2Proof.Machine

variable {α : Type}

theorem Sparse.read_append (k : Nat) (a b : Sparse α) :
    Sparse.read k (a ++ b) = (Sparse.read k a).or (Sparse.read k b) := by
  unfold Sparse.read
  rw [List.find?_append]
  cases List.find? (fun e => e.1 == k) a <;> simp

theorem Sparse.read_filter_of_keep (k : Nat) (q : Nat × α → Bool) (m : Sparse α) (h : ∀ v, q (k, v) = true) :
    Sparse.read k (m.filter q) = Sparse.read k m := by
  unfold Sparse.read
  congr 1
  induction m with
  | nil => rfl
  | cons e m ih =>
    obtain ⟨n, v⟩ := e
    by_cases hn : n = k
    · subst hn; simp [h]
    · by_cases hq : q (n, v) = true <;> simp [hq, hn, ih]

theorem Sparse.read_filter_of_drop (k : Nat) (q : Nat × α → Bool) (m : Sparse α) (h : ∀ v, q (k, v) = false) :
    Sparse.read k (m.filter q) = none := by
  unfold Sparse.read
  rw [Option.map_eq_none_iff, List.find?_eq_none]
  intro e he
  obtain ⟨-, hq⟩ := List.mem_filter.1 he
  intro hk
  obtain ⟨n, v⟩ := e
  simp only [beq_iff_eq] at hk
  subst hk
  simp [h] at hq

/-- A read after a write gives the value written, and every other number as it was. -/
theorem Sparse.read_write (k n : Nat) (v : α) (m : Sparse α) :
    Sparse.read n (Sparse.write k v m) = if n = k then some v else Sparse.read n m := by
  unfold Sparse.write
  rw [Sparse.read_append]
  split
  · next h =>
    subst h
    rw [Sparse.read_filter_of_drop _ _ _ (by simp)]
    simp [Sparse.read]
  · next h =>
    have hc : ∀ l : Sparse α, Sparse.read n ((k, v) :: l) = Sparse.read n l := by
      intro l
      simp [Sparse.read, Ne.symm h]
    rw [hc]
    rcases Nat.lt_or_gt_of_ne h with hlt | hgt
    · rw [Sparse.read_filter_of_keep _ _ _ (by simp [hlt]), Sparse.read_filter_of_drop n (fun e => decide (k < e.1)) _
        (by simp; omega)]
      cases Sparse.read n m <;> rfl
    · rw [Sparse.read_filter_of_drop _ _ _ (by simp; omega), Sparse.read_filter_of_keep n (fun e => decide (k < e.1)) _
        (by simp [hgt])]
      rfl

theorem Sparse.read_erase (k n : Nat) (m : Sparse α) :
    Sparse.read n (Sparse.erase k m) = if n = k then none else Sparse.read n m := by
  unfold Sparse.erase
  split
  · next h => subst h; exact Sparse.read_filter_of_drop _ _ _ (by simp)
  · next h => exact Sparse.read_filter_of_keep _ _ _ (by simp [h])

theorem Sparse.wf_filter (q : Nat × α → Bool) (m : Sparse α) (h : Sparse.wf m) : Sparse.wf (m.filter q) :=
  List.Pairwise.sublist (List.Sublist.map _ List.filter_sublist) h

theorem Sparse.wf_write (k : Nat) (v : α) (m : Sparse α) (h : Sparse.wf m) : Sparse.wf (Sparse.write k v m) := by
  have h1 := Sparse.wf_filter (fun e => decide (e.1 < k)) m h
  have h2 := Sparse.wf_filter (fun e => decide (k < e.1)) m h
  simp only [Sparse.wf, Sparse.write, List.map_append, List.map_cons, List.pairwise_append, List.pairwise_cons,
    List.mem_map, List.mem_filter, List.mem_cons] at *
  refine ⟨h1, ⟨?_, h2⟩, ?_⟩
  · rintro a ⟨e, ⟨-, he⟩, rfl⟩
    simpa using he
  · rintro a ⟨e, ⟨-, he⟩, rfl⟩ b (rfl | ⟨e', ⟨-, he'⟩, rfl⟩)
    · simpa using he
    · simp only [decide_eq_true_eq] at he he'
      omega

theorem Sparse.wf_erase (k : Nat) (m : Sparse α) (h : Sparse.wf m) : Sparse.wf (Sparse.erase k m) := Sparse.wf_filter _ m h

/-! ### The media -/

theorem Media.stored_put (m : Media) (k n : Nat) (v : StoredLine) :
    (m.put k v).stored n = if n = k then v else m.stored n := by
  unfold Media.put Media.stored
  simp only [Sparse.read_write]
  split <;> rfl

theorem Media.stored_tear_ne (m : Media) (k n : Nat) (v : StoredLine) (h : n ≠ k) : (m.tear k v).stored n = m.stored n := by
  have := Media.stored_put m k n ((v &&& Config.tornBits m.torn) ||| (m.stored k &&& ~~~Config.tornBits m.torn))
  simpa [Media.tear, Media.stored, h] using this

theorem Media.wf_put (m : Media) (k : Nat) (v : StoredLine) (h : Memory.wf m.lines) : Memory.wf (m.put k v).lines :=
  Sparse.wf_write k v m.lines h

theorem Media.wf_tear (m : Media) (k : Nat) (v : StoredLine) (h : Memory.wf m.lines) : Memory.wf (m.tear k v).lines :=
  Sparse.wf_write k _ m.lines h

theorem Media.wf_foldl_put {β : Type} (f : β → Nat) (v : StoredLine) (l : List β) (m : Media) (h : Memory.wf m.lines) :
    Memory.wf (l.foldl (fun m p => m.put (f p) v) m).lines := by
  induction l generalizing m with
  | nil => exact h
  | cons p l ih => exact ih _ (Media.wf_put m _ v h)

/-- A media write keeps the canonical form. -/
theorem writeLine_wf (l : LineAddr) (ts : List Place) (c : LineContent) (s : State) (h : Memory.wf s.media.lines) :
    Memory.wf (writeLine l ts c s).media.lines := Media.wf_foldl_put _ _ ts s.media h

/-- A reset keeps the canonical form. -/
theorem mediaAfterReset_wf (powerLost : Bool) (s : State) (h : Memory.wf s.media.lines) :
    Memory.wf (mediaAfterReset powerLost s).lines := by
  unfold mediaAfterReset
  split
  · exact List.Pairwise.nil
  · generalize writesInFlight s = l
    generalize s.media = m at h
    induction l generalizing m with
    | nil => exact h
    | cons w l ih => exact ih _ (Media.wf_tear m _ _ h)

/-- The memory after reset has the canonical form. -/
theorem reset_media_wf : Memory.wf State.reset.media.lines := List.Pairwise.nil

/-- What a write to several places leaves: the content at each of them, every other physical line as it was. -/
theorem Media.stored_foldl_put {β : Type} (f : β → Nat) (v : StoredLine) (l : List β) (m : Media) (n : Nat) :
    (l.foldl (fun m p => m.put (f p) v) m).stored n = if ∃ p ∈ l, f p = n then v else m.stored n := by
  induction l generalizing m with
  | nil => simp
  | cons p l ih =>
    rw [List.foldl_cons, ih, Media.stored_put]
    by_cases h : ∃ q ∈ l, f q = n
    · rw [if_pos h, if_pos (by obtain ⟨q, hq, e⟩ := h; exact ⟨q, List.mem_cons_of_mem _ hq, e⟩)]
    · rw [if_neg h]
      by_cases hp : n = f p
      · rw [if_pos hp, if_pos ⟨p, List.mem_cons_self, hp.symm⟩]
      · rw [if_neg hp, if_neg]
        rintro ⟨q, hq, e⟩
        rcases List.mem_cons.1 hq with rfl | hq
        · exact hp e.symm
        · exact h ⟨q, hq, e⟩

end Sys2Proof.Machine
end

