-- ==== Sys2Proof/Laws/Records.lean ====
section
/-! SUPPORT. Laws/Records.lean: lookups after updates, line orders after updates, places, spares and argument bytes. -/

namespace Sys2Proof.Machine

/-! ### Records -/

theorem lookup_mem {s : State} {k : RowKey} {r : Record} (h : lookup s k = some r) : r ∈ s.table :=
  List.mem_of_find?_eq_some h

theorem lookup_key {s : State} {k : RowKey} {r : Record} (h : lookup s k = some r) : r.key = k := by
  simpa using List.find?_some h

theorem lookup_eq_none {s : State} {k : RowKey} : lookup s k = none ↔ ∀ r ∈ s.table, r.key ≠ k := by
  simp [lookup, List.find?_eq_none]

/-- A lookup depends on the table alone. -/
theorem lookup_congr {s t : State} (h : s.table = t.table) (k : RowKey) : lookup s k = lookup t k := by
  rw [lookup, lookup, h]

theorem lineRecord_congr {s t : State} (h : s.table = t.table) (l : LineAddr) : lineRecord s l = lineRecord t l :=
  lookup_congr h _

theorem find_map_key (t : List Record) (f : Record → Record) (k : RowKey) (hf : ∀ r, (f r).key = r.key) :
    (t.map f).find? (fun r => r.key == k) = (t.find? fun r => r.key == k).map f := by
  induction t with
  | nil => rfl
  | cons r t ih => by_cases h : r.key = k <;> simp [hf, h, ih]

/-- A lookup after the change of one key's record. -/
theorem lookup_updateRecord (s : State) (k k' : RowKey) (f : Record → Record) (hf : ∀ r, r.key = k → (f r).key = k) :
    lookup (updateRecord k f s) k' = if k' = k then (lookup s k').map f else lookup s k' := by
  have hk : ∀ r : Record, (if r.key = k then f r else r).key = r.key := by
    intro r
    split
    · next h => rw [hf r h, h]
    · rfl
  rw [lookup, updateRecord, State.setTable_table, find_map_key _ _ _ hk]
  split
  · next h =>
    subst h
    rw [← lookup]
    cases hl : lookup s k' with
    | none => rfl
    | some r => simp [lookup_key hl]
  · next h =>
    rw [← lookup]
    cases hl : lookup s k' with
    | none => rfl
    | some r =>
      have := lookup_key hl
      simp [this, h]

/-! ### Line orders -/

theorem modifyFirst_modifyFirst {α : Type} (p : α → Bool) (f g : α → α) (l : List α) (h : ∀ a, p a → p (g a)) :
    modifyFirst p f (modifyFirst p g l) = modifyFirst p (fun a => f (g a)) l := by
  induction l with
  | nil => rfl
  | cons a l ih => by_cases hp : p a = true <;> simp [modifyFirst, hp, h, ih]

theorem find_modifyFirst {α : Type} (p : α → Bool) (f : α → α) (l : List α) (h : ∀ a, p a → p (f a)) :
    (modifyFirst p f l).find? p = (l.find? p).map f := by
  induction l with
  | nil => rfl
  | cons a l ih => by_cases hp : p a = true <;> simp [modifyFirst, hp, h, ih]

theorem map_modifyFirst {α β : Type} (p : α → Bool) (f : α → α) (g : α → β) (l : List α) (h : ∀ a, g (f a) = g a) :
    (modifyFirst p f l).map g = l.map g := by
  induction l with
  | nil => rfl
  | cons a l ih => by_cases hp : p a = true <;> simp [modifyFirst, hp, h, ih]

theorem headOp_line {s : State} {l : LineAddr} {o : Op} (h : headOp s l = some o) : o.line = l := by
  simpa using List.find?_some h

/-- An operation that may complete is the head of its line's order. -/
theorem completing_head {s : State} {l : LineAddr} {o : Op} (h : completing s l = some o) :
    headOp s l = some o ∧ mediaReady s o = true := by
  rw [completing, Option.filter_eq_some_iff] at h
  exact h

/-- The answering of the head request takes one tag from the occupancy. -/
theorem countP_eraseP_head (ops : List Op) (l : LineAddr) (o : Op) (h : ops.find? (fun o => o.line == l) = some o) :
    (ops.eraseP fun o => o.line == l).countP (fun o => o.tag.isSome) =
      ops.countP (fun o => o.tag.isSome) - if o.tag.isSome then 1 else 0 := by
  induction ops with
  | nil => simp at h
  | cons a ops ih =>
    by_cases hp : a.line = l
    · simp only [hp, BEq.rfl, List.find?_cons_of_pos, Option.some.injEq] at h
      subst h
      cases ht : a.tag <;> simp [hp, ht]
    · simp only [beq_iff_eq, hp, not_false_eq_true, List.find?_cons_of_neg] at h
      have hm : o ∈ ops := List.mem_of_find?_eq_some h
      rw [List.eraseP_cons_of_neg (by simpa using hp), List.countP_cons, List.countP_cons, ih h]
      cases ho : o.tag with
      | none => simp
      | some t =>
        have : 0 < ops.countP (fun o => o.tag.isSome) := List.countP_pos_iff.2 ⟨o, hm, by simp [ho]⟩
        simp only [Option.isSome_some, if_true]
        omega

/-! ### Spares -/

theorem spareNumber_injective {p p' : BankPos} {i i' : SpareIdx} (h : spareNumber p i = spareNumber p' i') :
    p = p' ∧ i = i' := by
  unfold spareNumber at h
  have := i.isLt
  have := i'.isLt
  constructor <;> apply Fin.ext <;> omega

/-- The state of a spare after one spare is put into a state. -/
theorem spareState_setSpare (s : State) (p p' : BankPos) (i i' : SpareIdx) (st : SpareState) :
    spareState (setSpare p i st s).spares p' i' = if p' = p ∧ i' = i then st else spareState s.spares p' i' := by
  have hn : spareNumber p' i' = spareNumber p i ↔ p' = p ∧ i' = i :=
    ⟨spareNumber_injective, fun ⟨a, b⟩ => by rw [a, b]⟩
  cases st <;> simp only [setSpare, spareState, State.setSpares_spares, Sparse.read_write, Sparse.read_erase, hn] <;>
    by_cases hc : p' = p ∧ i' = i <;> simp [hc]

theorem lowestFree_some {m : Sparse SpareUse} {p : BankPos} {d : SpareIdx} :
    lowestFree m p = some d ↔ spareState m p d = .free ∧ ∀ i : SpareIdx, i < d → spareState m p i ≠ .free := by
  rw [lowestFree, List.find?_eq_some_iff_getElem]
  simp only [beq_iff_eq, List.getElem_finRange, List.length_finRange]
  constructor
  · rintro ⟨h, i, hi, he, hlt⟩
    refine ⟨h, fun j hj => ?_⟩
    have hd : d.val = i := by rw [← he]; rfl
    simpa using hlt j.val (hd ▸ hj)
  · rintro ⟨h, hlt⟩
    refine ⟨h, d.val, d.isLt, by ext; rfl, fun j hj => ?_⟩
    have := hlt ⟨j, by omega⟩ (by exact hj)
    simpa using this

theorem lowestFree_none {m : Sparse SpareUse} {p : BankPos} :
    lowestFree m p = none ↔ ∀ i : SpareIdx, spareState m p i ≠ .free := by
  simp [lowestFree, List.find?_eq_none]

/-! ### Argument bytes -/

theorem rankArg_ofNat (r : Rank) : rankArg (BitVec.ofNat 8 r.val) = some r := by revert r; decide

theorem bankArg_ofNat (b : Bank) : bankArg (BitVec.ofNat 8 b.val) = some b := by revert b; decide

/-- The four bytes of a row key spell it (R182). -/
theorem keyArg_keyBytes (k : RowKey) : keyArg (keyBytes k) = some k := by
  obtain ⟨r, b, row⟩ := k
  have := row.isLt
  simp only [keyBytes, byteOf, bytesOf, List.nil_append, List.cons_append, keyArg, rankArg_ofNat, bankArg_ofNat]
  simp only [BitVec.toNat_ofNat, Option.some.injEq, RowKey.mk.injEq, true_and]
  ext
  simp only
  omega

theorem keyBytes_length (k : RowKey) : (keyBytes k).length = 4 := rfl

/-- Four bytes spell a number below 2^32 (R182). -/
theorem numberOf_bytesOf (v : BitVec 32) : numberOf (bytesOf 4 v.toNat) = v.toNat := by
  have := v.isLt
  simp only [bytesOf, numberOf, List.nil_append, List.cons_append, List.foldl_cons, List.foldl_nil, BitVec.toNat_ofNat]
  omega

end Sys2Proof.Machine
end

