-- ==== Sys2Proof/Laws/Events.lean ====
section
/-! SUPPORT. Laws/Events.lean: what the taking of migrations and the receipt of an error event leave of every record: any
function of a record that looks at neither its state, its destination, its migration nor its urgency. -/

namespace Sys2Proof.Machine

variable {α : Type} {g : Record → α}

/-- `f` leaves `g` of every record, and makes and removes no record of a key. -/
def KeepsOfRecords (g : Record → α) (f : State → State) : Prop :=
  ∀ (s : State) (k : RowKey), (lookup (f s) k).map g = (lookup s k).map g

/-- `g` looks at neither the state, the destination, the migration nor the urgency of a record. -/
def IgnoresProgress (g : Record → α) : Prop :=
  ∀ (r : Record) (st : RecordState) (d : Option SpareIdx) (m : Option MigSub) (u : Bool),
    g { r with state := st, destSpare := d, migration := m, urgent := u } = g r

theorem keeps_updateRecord (k : RowKey) (f : Record → Record) (hf : ∀ r, (f r).key = r.key) (hg : ∀ r, g (f r) = g r) :
    KeepsOfRecords g (updateRecord k f) := by
  intro s k'
  rw [lookup_updateRecord _ _ _ _ (by intro r h; rw [hf, h])]
  split
  · cases lookup s k' <;> simp [hg]
  · rfl

theorem keeps_condemn (hg : IgnoresProgress g) (k : RowKey) : KeepsOfRecords g (condemn k) := by
  intro s k'
  rw [condemn, lookup_congr (t := updateRecord k (Record.settle .condemned) s) (by simp)]
  exact keeps_updateRecord k (Record.settle .condemned) (fun _ => rfl) (fun r => hg r _ _ _ _) s k'

theorem keeps_startAttempt (hg : IgnoresProgress g) (k : RowKey) (d : SpareIdx) (n : Nat) :
    KeepsOfRecords g (startAttempt k d n) := by
  intro s k'
  unfold startAttempt
  dsimp only
  rw [keeps_updateRecord k (Record.startAttempt d n) (fun _ => rfl) (fun r => hg r _ _ _ r.urgent)]
  congr 1
  exact lookup_congr (by simp) k'

theorem keeps_takeHeads (hg : IgnoresProgress g) (n : Nat) : KeepsOfRecords g (takeHeads n) := by
  intro s k'
  induction n generalizing s with
  | zero => rfl
  | succ n ih =>
    unfold takeHeads
    split
    · rfl
    · split
      · rfl
      · dsimp only
        split
        · rw [keeps_startAttempt hg]; congr 1
        · rw [ih, keeps_condemn hg]; congr 1

theorem keeps_serveQueue (hg : IgnoresProgress g) : KeepsOfRecords g serveQueue := fun s k => keeps_takeHeads hg _ s k

theorem keeps_enqueue (hg : IgnoresProgress g) (k : RowKey) (u : Bool) : KeepsOfRecords g (enqueue k u) := by
  intro s k'
  unfold enqueue
  dsimp only
  rw [keeps_serveQueue hg,
    lookup_congr (t := updateRecord k (fun r => { r with state := .queued, urgent := u }) s) (by simp)]
  exact keeps_updateRecord (g := g) k (fun r => { r with state := .queued, urgent := u }) (fun _ => rfl)
    (fun r => hg r .queued r.destSpare r.migration u) s k'

theorem keeps_applyVerdict (hg : IgnoresProgress g) (r : Record) (v : Verdict) : KeepsOfRecords g (applyVerdict r v) := by
  intro s k'
  unfold applyVerdict
  split
  · rfl
  · exact keeps_updateRecord (g := g) r.key (fun r => { r with state := .suspect, urgent := false }) (fun _ => rfl)
      (fun r => hg r .suspect r.destSpare r.migration false) s k'
  · exact keeps_enqueue hg _ _ s k'
  · split
    · exact keeps_enqueue hg _ _ s k'
    · exact keeps_updateRecord (g := g) r.key (fun r => { r with urgent := true }) (fun _ => rfl)
        (fun r => hg r r.state r.destSpare r.migration true) s k'

theorem Record.score_key (p : Params) (ev : ErrorEvent) (r : Record) : (r.score p ev).key = r.key := by
  unfold Record.score
  split
  · rfl
  · unfold Record.lose
    dsimp only
    split
    · rfl
    · split <;> rfl

theorem applyEvent_lookup (hg : IgnoresProgress g) (ev : ErrorEvent) (r : Record) (s : State)
    (h : lookup s (lineKey ev.line) = some r) :
    (lookup (applyEvent ev r s) (lineKey ev.line)).map g = some (g (r.score s.params ev)) := by
  have hk := lookup_key h
  unfold applyEvent
  dsimp only
  rw [keeps_applyVerdict hg]
  have ht : lookup (if Record.newLoss ev r = true
      then raise AttnFlag.uncorrectable (updateRecord r.key (fun _ => Record.score s.params ev r) s)
      else updateRecord r.key (fun _ => Record.score s.params ev r) s) (lineKey ev.line) =
      lookup (updateRecord r.key (fun _ => Record.score s.params ev r) s) (lineKey ev.line) := by
    split <;> exact lookup_congr (by simp) _
  rw [ht, lookup_updateRecord _ _ _ _ (by intro a b; exact Record.score_key _ _ _), hk]
  simp [h]

/-- An event on a row with a record scores that record (R61). -/
theorem receiveEvent_scored (hg : IgnoresProgress g) (ev : ErrorEvent) (r : Record) (s : State)
    (h : lineRecord s ev.line = some r) :
    (lineRecord (receiveEvent ev s) ev.line).map g = some (g (r.score s.params ev)) := by
  have h' : lineRecord (countEvent ev s) ev.line = some r := by rw [← h]; exact lineRecord_congr (by simp) _
  unfold receiveEvent
  dsimp only
  rw [h']
  have := applyEvent_lookup hg ev r (countEvent ev s) h'
  have hp : (countEvent ev s).params = s.params := by simp
  rwa [hp] at this

theorem makeRoom_subset {t t' : List Record} {n : Fin 256} (h : makeRoom t = some (n, t')) : ∀ r ∈ t', r ∈ t := by
  unfold makeRoom at h
  split at h
  · cases h; exact fun _ a => a
  · obtain ⟨v, -, hv⟩ := Option.map_eq_some_iff.1 h
    cases hv
    exact fun r hr => List.mem_of_mem_filter hr

/-- An event on a row without a record scores the new one, when room can be made (R62). -/
theorem receiveEvent_created (hg : IgnoresProgress g) (ev : ErrorEvent) (s : State) (h : lineRecord s ev.line = none)
    {n : Fin 256} {t : List Record} (hm : makeRoom s.table = some (n, t)) :
    (lineRecord (receiveEvent ev s) ev.line).map g =
      some (g ((Record.fresh n (lineKey ev.line) ev.origin).score s.params ev)) := by
  have h' : lineRecord (countEvent ev s) ev.line = none := by rw [← h]; exact lineRecord_congr (by simp) _
  have hm' : makeRoom (countEvent ev s).table = some (n, t) := by simpa using hm
  have hl : lookup ((countEvent ev s).setTable (t ++ [Record.fresh n (lineKey ev.line) ev.origin])) (lineKey ev.line) =
      some (Record.fresh n (lineKey ev.line) ev.origin) := by
    rw [lookup, State.setTable_table, List.find?_append, List.find?_eq_none.2]
    · simp [Record.fresh]
    · intro r hr
      simpa using lookup_eq_none.1 h r (makeRoom_subset hm r hr)
  unfold receiveEvent
  dsimp only
  simp only [h', createRecord, hm', Option.map_some, id]
  have := applyEvent_lookup hg ev _ _ hl
  have hp : (countEvent ev s).params = s.params := by simp
  rwa [State.setTable_params, hp] at this

/-- An event that no record can be found or made for (R63). -/
theorem receiveEvent_untracked (ev : ErrorEvent) (s : State) (h : lineRecord s ev.line = none)
    (hm : makeRoom s.table = none) : receiveEvent ev s = untracked ev (countEvent ev s) := by
  have h' : lineRecord (countEvent ev s) ev.line = none := by rw [← h]; exact lineRecord_congr (by simp) _
  have hm' : makeRoom (countEvent ev s).table = none := by simpa using hm
  unfold receiveEvent
  dsimp only
  simp only [h', createRecord, hm', Option.map_none]

end Sys2Proof.Machine
end

