-- ==== Sys2Proof/Laws/Requests.lean ====
section
/-! SUPPORT. Laws/Requests.lean: what each operation of the Front Link Interface leaves untouched. -/

namespace Sys2Proof.Machine

@[simp] theorem faultLink_frame (s : State) :
    (faultLink s).phase = s.phase ∧ (faultLink s).loadNext = s.loadNext ∧ (faultLink s).ops = s.ops ∧
    (faultLink s).stamps = s.stamps ∧ (faultLink s).linkOut = s.linkOut ∧ (faultLink s).table = s.table ∧
    (faultLink s).wbQueue = s.wbQueue ∧ (faultLink s).verifyQueue = s.verifyQueue ∧
    (faultLink s).patrol = s.patrol ∧ (faultLink s).quiet = s.quiet ∧ (faultLink s).hold = s.hold ∧
    (faultLink s).slot = s.slot ∧ (faultLink s).spares = s.spares ∧ (faultLink s).queue = s.queue ∧
    (faultLink s).engine = s.engine ∧ (faultLink s).store = s.store ∧ (faultLink s).persist = s.persist ∧
    (faultLink s).params = s.params ∧ (faultLink s).counters = s.counters ∧ (faultLink s).port = s.port ∧
    (faultLink s).media = s.media ∧ (faultLink s).pending = s.pending := by
  simp [faultLink]

@[simp] theorem orphanAll_frame (s : State) :
    (orphanAll s).phase = s.phase ∧ (orphanAll s).loadNext = s.loadNext ∧ (orphanAll s).link = s.link ∧
    (orphanAll s).stamps = s.stamps ∧ (orphanAll s).linkOut = s.linkOut ∧ (orphanAll s).table = s.table ∧
    (orphanAll s).wbQueue = s.wbQueue ∧ (orphanAll s).verifyQueue = s.verifyQueue ∧
    (orphanAll s).patrol = s.patrol ∧ (orphanAll s).hold = s.hold ∧ (orphanAll s).slot = s.slot ∧
    (orphanAll s).spares = s.spares ∧ (orphanAll s).queue = s.queue ∧ (orphanAll s).engine = s.engine ∧
    (orphanAll s).store = s.store ∧ (orphanAll s).persist = s.persist ∧ (orphanAll s).params = s.params ∧
    (orphanAll s).counters = s.counters ∧ (orphanAll s).attn = s.attn ∧ (orphanAll s).port = s.port ∧
    (orphanAll s).media = s.media ∧ (orphanAll s).pending = s.pending := by
  simp [orphanAll]

@[simp] theorem beginLinkReset_frame (s : State) :
    (beginLinkReset s).phase = s.phase ∧ (beginLinkReset s).loadNext = s.loadNext ∧
    (beginLinkReset s).ops = s.ops ∧ (beginLinkReset s).stamps = s.stamps ∧
    (beginLinkReset s).linkOut = s.linkOut ∧ (beginLinkReset s).table = s.table ∧
    (beginLinkReset s).wbQueue = s.wbQueue ∧ (beginLinkReset s).verifyQueue = s.verifyQueue ∧
    (beginLinkReset s).patrol = s.patrol ∧ (beginLinkReset s).quiet = s.quiet ∧ (beginLinkReset s).hold = s.hold ∧
    (beginLinkReset s).slot = s.slot ∧ (beginLinkReset s).spares = s.spares ∧ (beginLinkReset s).queue = s.queue ∧
    (beginLinkReset s).engine = s.engine ∧ (beginLinkReset s).store = s.store ∧
    (beginLinkReset s).persist = s.persist ∧ (beginLinkReset s).params = s.params ∧
    (beginLinkReset s).counters = s.counters ∧ (beginLinkReset s).attn = s.attn ∧
    (beginLinkReset s).port = s.port ∧ (beginLinkReset s).media = s.media ∧
    (beginLinkReset s).pending = s.pending := by
  simp [beginLinkReset]

@[simp] theorem finishRequest_frame (l : LineAddr) (o : Op) (f : Tag → OutFrame) (s : State) :
    (finishRequest l o f s).phase = s.phase ∧ (finishRequest l o f s).loadNext = s.loadNext ∧
    (finishRequest l o f s).link = s.link ∧ (finishRequest l o f s).stamps = s.stamps ∧
    (finishRequest l o f s).table = s.table ∧ (finishRequest l o f s).wbQueue = s.wbQueue ∧
    (finishRequest l o f s).verifyQueue = s.verifyQueue ∧ (finishRequest l o f s).patrol = s.patrol ∧
    (finishRequest l o f s).hold = s.hold ∧ (finishRequest l o f s).slot = s.slot ∧
    (finishRequest l o f s).spares = s.spares ∧ (finishRequest l o f s).queue = s.queue ∧
    (finishRequest l o f s).engine = s.engine ∧ (finishRequest l o f s).store = s.store ∧
    (finishRequest l o f s).persist = s.persist ∧ (finishRequest l o f s).params = s.params ∧
    (finishRequest l o f s).counters = s.counters ∧ (finishRequest l o f s).attn = s.attn ∧
    (finishRequest l o f s).port = s.port ∧ (finishRequest l o f s).media = s.media ∧
    (finishRequest l o f s).pending = s.pending := by
  unfold finishRequest
  (repeat' split) <;> simp

@[simp] theorem completeRead_frame (l : LineAddr) (o : Op) (st : ReadStatus) (d : LineData) (s : State) :
    (completeRead l o st d s).phase = s.phase ∧ (completeRead l o st d s).loadNext = s.loadNext ∧
    (completeRead l o st d s).link = s.link ∧ (completeRead l o st d s).stamps = s.stamps ∧
    (completeRead l o st d s).table = s.table ∧ (completeRead l o st d s).wbQueue = s.wbQueue ∧
    (completeRead l o st d s).verifyQueue = s.verifyQueue ∧ (completeRead l o st d s).patrol = s.patrol ∧
    (completeRead l o st d s).hold = s.hold ∧ (completeRead l o st d s).slot = s.slot ∧
    (completeRead l o st d s).spares = s.spares ∧ (completeRead l o st d s).queue = s.queue ∧
    (completeRead l o st d s).engine = s.engine ∧ (completeRead l o st d s).store = s.store ∧
    (completeRead l o st d s).persist = s.persist ∧ (completeRead l o st d s).params = s.params ∧
    (completeRead l o st d s).counters = s.counters ∧ (completeRead l o st d s).attn = s.attn ∧
    (completeRead l o st d s).port = s.port ∧ (completeRead l o st d s).media = s.media ∧
    (completeRead l o st d s).pending = s.pending := by
  unfold completeRead
  (repeat' split) <;> simp

@[simp] theorem finishRead_frame (l : LineAddr) (o : Op) (d : Decode) (s : State) :
    (finishRead l o d s).phase = s.phase ∧ (finishRead l o d s).loadNext = s.loadNext ∧
    (finishRead l o d s).link = s.link ∧ (finishRead l o d s).stamps = s.stamps ∧
    (finishRead l o d s).patrol = s.patrol ∧ (finishRead l o d s).hold = s.hold ∧
    (finishRead l o d s).slot = s.slot ∧ (finishRead l o d s).store = s.store ∧
    (finishRead l o d s).persist = s.persist ∧ (finishRead l o d s).params = s.params ∧
    (finishRead l o d s).port = s.port ∧ (finishRead l o d s).media = s.media ∧
    (finishRead l o d s).pending = s.pending := by
  unfold finishRead
  (repeat' split) <;> simp

@[simp] theorem performRead_frame (l : LineAddr) (o : Op) (s : State) :
    (performRead l o s).phase = s.phase ∧ (performRead l o s).loadNext = s.loadNext ∧
    (performRead l o s).link = s.link ∧ (performRead l o s).table = s.table ∧
    (performRead l o s).wbQueue = s.wbQueue ∧ (performRead l o s).verifyQueue = s.verifyQueue ∧
    (performRead l o s).patrol = s.patrol ∧ (performRead l o s).hold = s.hold ∧
    (performRead l o s).slot = s.slot ∧ (performRead l o s).spares = s.spares ∧
    (performRead l o s).queue = s.queue ∧ (performRead l o s).engine = s.engine ∧
    (performRead l o s).store = s.store ∧ (performRead l o s).persist = s.persist ∧
    (performRead l o s).params = s.params ∧ (performRead l o s).attn = s.attn ∧
    (performRead l o s).port = s.port ∧ (performRead l o s).media = s.media ∧
    (performRead l o s).pending = s.pending := by
  unfold performRead
  dsimp only
  (repeat' split) <;> simp

@[simp] theorem performWrite_frame (l : LineAddr) (d : LineData) (s : State) :
    (performWrite l d s).phase = s.phase ∧ (performWrite l d s).loadNext = s.loadNext ∧
    (performWrite l d s).link = s.link ∧ (performWrite l d s).linkOut = s.linkOut ∧
    (performWrite l d s).wbQueue = s.wbQueue ∧ (performWrite l d s).verifyQueue = s.verifyQueue ∧
    (performWrite l d s).patrol = s.patrol ∧ (performWrite l d s).quiet = s.quiet ∧
    (performWrite l d s).hold = s.hold ∧ (performWrite l d s).slot = s.slot ∧
    (performWrite l d s).spares = s.spares ∧ (performWrite l d s).queue = s.queue ∧
    (performWrite l d s).engine = s.engine ∧ (performWrite l d s).store = s.store ∧
    (performWrite l d s).persist = s.persist ∧ (performWrite l d s).params = s.params ∧
    (performWrite l d s).counters = s.counters ∧ (performWrite l d s).attn = s.attn ∧
    (performWrite l d s).port = s.port ∧ (performWrite l d s).media = s.media ∧
    (performWrite l d s).pending = s.pending := by
  simp [performWrite]

@[simp] theorem finishWrite_frame (l : LineAddr) (o : Op) (ts : List Place) (c : LineContent) (s : State) :
    (finishWrite l o ts c s).phase = s.phase ∧ (finishWrite l o ts c s).loadNext = s.loadNext ∧
    (finishWrite l o ts c s).link = s.link ∧ (finishWrite l o ts c s).stamps = s.stamps ∧
    (finishWrite l o ts c s).wbQueue = s.wbQueue ∧ (finishWrite l o ts c s).verifyQueue = s.verifyQueue ∧
    (finishWrite l o ts c s).patrol = s.patrol ∧ (finishWrite l o ts c s).hold = s.hold ∧
    (finishWrite l o ts c s).spares = s.spares ∧ (finishWrite l o ts c s).queue = s.queue ∧
    (finishWrite l o ts c s).store = s.store ∧ (finishWrite l o ts c s).persist = s.persist ∧
    (finishWrite l o ts c s).params = s.params ∧ (finishWrite l o ts c s).counters = s.counters ∧
    (finishWrite l o ts c s).attn = s.attn ∧ (finishWrite l o ts c s).port = s.port ∧
    (finishWrite l o ts c s).pending = s.pending := by
  simp [finishWrite]

@[simp] theorem keepPoison_frame (l : LineAddr) (o : Op) (s : State) :
    (keepPoison l o s).phase = s.phase ∧ (keepPoison l o s).loadNext = s.loadNext ∧
    (keepPoison l o s).link = s.link ∧ (keepPoison l o s).table = s.table ∧
    (keepPoison l o s).wbQueue = s.wbQueue ∧ (keepPoison l o s).verifyQueue = s.verifyQueue ∧
    (keepPoison l o s).patrol = s.patrol ∧ (keepPoison l o s).hold = s.hold ∧ (keepPoison l o s).slot = s.slot ∧
    (keepPoison l o s).spares = s.spares ∧ (keepPoison l o s).queue = s.queue ∧
    (keepPoison l o s).store = s.store ∧ (keepPoison l o s).persist = s.persist ∧
    (keepPoison l o s).params = s.params ∧ (keepPoison l o s).counters = s.counters ∧
    (keepPoison l o s).attn = s.attn ∧ (keepPoison l o s).port = s.port ∧ (keepPoison l o s).media = s.media ∧
    (keepPoison l o s).pending = s.pending := by
  simp [keepPoison]

@[simp] theorem closeRead_frame (l : LineAddr) (s : State) :
    (closeRead l s).phase = s.phase ∧ (closeRead l s).loadNext = s.loadNext ∧ (closeRead l s).link = s.link ∧
    (closeRead l s).stamps = s.stamps ∧ (closeRead l s).linkOut = s.linkOut ∧ (closeRead l s).table = s.table ∧
    (closeRead l s).wbQueue = s.wbQueue ∧ (closeRead l s).verifyQueue = s.verifyQueue ∧
    (closeRead l s).patrol = s.patrol ∧ (closeRead l s).quiet = s.quiet ∧ (closeRead l s).hold = s.hold ∧
    (closeRead l s).slot = s.slot ∧ (closeRead l s).spares = s.spares ∧ (closeRead l s).queue = s.queue ∧
    (closeRead l s).engine = s.engine ∧ (closeRead l s).store = s.store ∧ (closeRead l s).persist = s.persist ∧
    (closeRead l s).params = s.params ∧ (closeRead l s).counters = s.counters ∧ (closeRead l s).attn = s.attn ∧
    (closeRead l s).port = s.port ∧ (closeRead l s).media = s.media ∧ (closeRead l s).pending = s.pending := by
  simp [closeRead]

@[simp] theorem finishReadHalf_frame (l : LineAddr) (o : Op) (n : LineData) (e : BitVec 64) (d : Decode) (s : State) :
    (finishReadHalf l o n e d s).phase = s.phase ∧ (finishReadHalf l o n e d s).loadNext = s.loadNext ∧
    (finishReadHalf l o n e d s).link = s.link ∧ (finishReadHalf l o n e d s).verifyQueue = s.verifyQueue ∧
    (finishReadHalf l o n e d s).patrol = s.patrol ∧ (finishReadHalf l o n e d s).hold = s.hold ∧
    (finishReadHalf l o n e d s).slot = s.slot ∧ (finishReadHalf l o n e d s).store = s.store ∧
    (finishReadHalf l o n e d s).persist = s.persist ∧ (finishReadHalf l o n e d s).params = s.params ∧
    (finishReadHalf l o n e d s).port = s.port ∧ (finishReadHalf l o n e d s).media = s.media ∧
    (finishReadHalf l o n e d s).pending = s.pending := by
  unfold finishReadHalf
  (repeat' split) <;> simp

end Sys2Proof.Machine
end

