-- ==== Sys2Proof/Laws/Steps.lean ====
section
/-! SUPPORT. Laws/Steps.lean: what the answering of a request, a media write, a migration step and the taking of migrations
come to, in the terms of Safety.lean. -/

namespace Sys2Proof.Machine

/-! ### Requests and writes -/

/-- A request that holds a tag is answered: `returned` says what changes (R51, R52). -/
theorem finishRequest_returned {s : State} {l : LineAddr} {o : Op} {t : Tag} (f : Tag → OutFrame)
    (h : headOp s l = some o) (ht : o.tag = some t) : finishRequest l o f s = returned l (f t) s := by
  have hc := countP_eraseP_head s.ops l o h
  simp only [ht, Option.isSome_some, if_true] at hc
  simp only [finishRequest, ht, reportOccupancy, leaveOrder, returned, State.setOps, State.setLinkOut, State.setQuiet,
    occupancy] at *
  rw [hc]

/-- A request ends: `ended` says what changes, for an orphan too (R34, R51). -/
theorem finishRequest_ended {s : State} {l : LineAddr} {o : Op} (f : Tag → OutFrame) (h : headOp s l = some o) :
    finishRequest l o f s = ended l o.tag f s := by
  cases ht : o.tag with
  | some t => simpa [ended] using finishRequest_returned f h ht
  | none => simp [finishRequest, ht, ended, unanswered, leaveOrder, State.setOps]

theorem stored_foldl_same (l : LineAddr) (c : StoredLine) (ts : List Place) (m : Media) :
    (∀ p ∈ ts, (ts.foldl (fun m p => m.put (physLine l p) c) m).stored (physLine l p) = c) ∧
    (∀ n : Nat, (∀ p ∈ ts, physLine l p ≠ n) →
      (ts.foldl (fun m p => m.put (physLine l p) c) m).stored n = m.stored n) := by
  induction ts generalizing m with
  | nil => simp
  | cons q ts ih =>
    refine ⟨fun p hp => ?_, fun n hn => ?_⟩
    · rw [List.foldl_cons]
      by_cases hm : ∃ p' ∈ ts, physLine l p' = physLine l p
      · obtain ⟨p', hp', he⟩ := hm
        rw [← he]
        exact (ih _).1 p' hp'
      · rw [(ih _).2 _ fun p' hp' he => hm ⟨p', hp', he⟩]
        rcases List.mem_cons.1 hp with rfl | hp
        · rw [Media.stored_put]; simp
        · exact absurd ⟨p, hp, rfl⟩ hm
    · rw [List.foldl_cons, (ih _).2 n fun p hp => hn p (List.mem_cons_of_mem _ hp), Media.stored_put]
      have := hn q List.mem_cons_self
      simp [Ne.symm this]

/-- A media write stores its content at each target and nothing anywhere else (R13, R19, R23). -/
theorem writeLine_written (l : LineAddr) (ts : List Place) (c : LineContent) (s : State) :
    Written s.media (writeLine l ts c s).media l ts c :=
  stored_foldl_same l c.stored ts s.media

theorem mem_insertColumn {c x : Column} {l : List Column} : c ∈ insertColumn x l ↔ c = x ∨ c ∈ l := by
  simp only [insertColumn, List.mem_append, List.mem_cons, List.mem_filter, decide_eq_true_eq]
  constructor
  · rintro (⟨h, -⟩ | h | ⟨h, -⟩) <;> simp [h]
  · rintro (h | h)
    · simp [h]
    · rcases lt_trichotomy c x with h' | h' | h' <;> simp [h, h']

theorem mem_eraseColumn {c x : Column} {l : List Column} : c ∈ eraseColumn x l ↔ c ≠ x ∧ c ∈ l := by
  simp [eraseColumn, and_comm]

theorem bind_migrationTarget {s : State} {l : LineAddr} {r : Record} {d : SpareIdx} {g : MigSub}
    (hr : lineRecord s l = some r) (hm : r.state = .migrating) (hd : r.destSpare = some d) (hg : r.migration = some g) :
    (lineRecord s l).bind migrationTarget = some (d, g.copyCursor) := by
  simp [hr, migrationTarget, hm, hd, hg]

/-- A record that is not MIGRATING has no destination to write to (R11). -/
theorem migrationTarget_none {s : State} {l : LineAddr} (h : NotMigrating s l) :
    (lineRecord s l).bind migrationTarget = none := by
  cases hr : lineRecord s l with
  | none => rfl
  | some r =>
    have := h r hr
    simp only [Option.bind_some, migrationTarget]
    split
    · next hm _ _ => exact absurd hm this
    · rfl

/-- A media write with what the marked-column set makes of it (R13, R157). -/
theorem writeLine_followMarked (l : LineAddr) (ts : List Place) (c : LineContent) (s : State) :
    ∃ marked : List Column,
      followMarked l ts c (writeLine l ts c s) = { s with
        media := (writeLine l ts c s).media, engine := { s.engine with marked := marked } } ∧
      MarkedFollows s l ts c marked := by
  have hl : lineRecord (writeLine l ts c s) l = lineRecord s l := lineRecord_congr (by simp) l
  have hsame : writeLine l ts c s = { s with media := (writeLine l ts c s).media } := by simp [writeLine, State.setMedia]
  unfold followMarked
  rw [hl]
  split
  · next d k hb =>
    have hn : ¬ NotMigrating s l := fun h => by rw [migrationTarget_none h] at hb; cases hb
    have hd : ∀ (r : Record) (d' : SpareIdx) (g : MigSub), lineRecord s l = some r → r.state = .migrating →
        r.destSpare = some d' → r.migration = some g → d' = d := fun r d' g hr hm he hg => by
      rw [bind_migrationTarget hr hm he hg] at hb
      simpa using congrArg Prod.fst (Option.some.inj hb)
    split
    · next hc =>
      have hin : Place.spare d ∈ ts := by simpa using hc
      split
      · refine ⟨eraseColumn (lineColumn l) s.engine.marked, by rw [hsame]; rfl, fun h => absurd h hn,
          fun r d' g hr hm he hg => ?_⟩
        rw [hd r d' g hr hm he hg]
        exact ⟨fun h => absurd hin h, fun _ x => by simp [mem_eraseColumn]⟩
      · refine ⟨insertColumn (lineColumn l) s.engine.marked, by rw [hsame]; rfl, fun h => absurd h hn,
          fun r d' g hr hm he hg => ?_⟩
        rw [hd r d' g hr hm he hg]
        exact ⟨fun h => absurd hin h, fun _ x => by simp [mem_insertColumn]⟩
    · next hc =>
      refine ⟨s.engine.marked, hsame, fun _ => rfl, fun r d' g hr hm he hg => ?_⟩
      rw [hd r d' g hr hm he hg]
      exact ⟨fun _ => rfl, fun h => absurd (by simpa using h) hc⟩
  · next hb =>
    refine ⟨s.engine.marked, hsame, fun _ => rfl, fun r d g hr hm he hg => ?_⟩
    rw [bind_migrationTarget hr hm he hg] at hb
    cases hb

/-! ### Migration steps -/

/-- The standing step with its operation at the stage that is asked for. -/
theorem stepOp_some {s : State} {st : MigStep} {o : Op} {k : OpKind} {f : State → LineAddr → Option Op}
    (hst : s.engine.step = some st) (hf : f s st.line = some o) (hk : o.kind = k) : stepOp s k f = some (st, o) := by
  simp [stepOp, hst, hf, Option.filter, hk]

theorem issueCopyWrite_some {s : State} {st : MigStep} (h : s.engine.step = some st) (l : LineAddr) (c : LineContent) :
    issueCopyWrite l c s = { s with
      ops := s.ops ++ [⟨l, .copyWrite, none, .writing [.spare st.dest] c s.stamps, none⟩]
      stamps := s.stamps + 1
      engine := { s.engine with step := some { st with stage := .copyWrite } } } := by
  simp [issueCopyWrite, h, joinOrder, State.setOps, State.setStamps, State.setEngine]

/-! ### The taking of migrations -/

/-- A busy engine takes nothing (R150). -/
theorem takeHeads_busy {s : State} (n : Nat) (h : (migrating s).isSome = true) : takeHeads n s = s := by
  cases n <;> simp [takeHeads, h]

theorem serveQueue_busy {s : State} (h : (migrating s).isSome = true) : serveQueue s = s := takeHeads_busy _ h

/-- A record that is MIGRATING makes the engine busy (R150). -/
theorem migrating_isSome {s : State} {k : RowKey} {r : Record} (h : lookup s k = some r) (hm : r.state = .migrating) :
    (migrating s).isSome = true := by
  rw [migrating, List.find?_isSome]
  exact ⟨r, lookup_mem h, by simp [hm]⟩

/-- The keys of the queue after its head is taken. -/
theorem takeHead_mem {q q' : MigQueue} {k : RowKey} (h : q.takeHead = some (k, q')) (x : RowKey) :
    x ∈ q.urgent ++ q.normal ↔ x = k ∨ x ∈ q'.urgent ++ q'.normal := by
  unfold MigQueue.takeHead at h
  split at h <;> simp only [Option.some.injEq, Prod.mk.injEq, reduceCtorEq] at h
  · next hu =>
    obtain ⟨rfl, rfl⟩ := h
    simp [hu]
  · next hu hn =>
    obtain ⟨rfl, rfl⟩ := h
    simp [hu, hn]

theorem takeHead_length {q q' : MigQueue} {k : RowKey} (h : q.takeHead = some (k, q')) : q.length = q'.length + 1 := by
  unfold MigQueue.takeHead at h
  split at h <;> simp only [Option.some.injEq, Prod.mk.injEq, reduceCtorEq] at h
  · next hu =>
    obtain ⟨rfl, rfl⟩ := h
    simp only [MigQueue.length, hu, List.length_cons]
    omega
  · next hu hn =>
    obtain ⟨rfl, rfl⟩ := h
    simp [MigQueue.length, hu, hn]

@[simp] theorem startAttempt_spares (k : RowKey) (d : SpareIdx) (n : Nat) (s : State) (p : BankPos) (i : SpareIdx) :
    spareState (startAttempt k d n s).spares p i =
      if p = keyPos k ∧ i = d then .assigned else spareState s.spares p i := by
  rw [← spareState_setSpare]
  unfold startAttempt allocate warnLow
  dsimp only
  split <;> simp

/-- The taking of migrations touches no spare that is not FREE (R146). -/
theorem takeHeads_spares (n : Nat) (s : State) (p : BankPos) (i : SpareIdx) (h : spareState s.spares p i ≠ .free) :
    spareState (takeHeads n s).spares p i = spareState s.spares p i := by
  induction n generalizing s with
  | zero => rfl
  | succ n ih =>
    unfold takeHeads
    split
    · rfl
    · split
      · rfl
      · dsimp only
        split
        · next d hd =>
          rw [startAttempt_spares]
          split
          · next hc =>
            rw [hc.1, hc.2] at h
            exact absurd (lowestFree_some.1 hd).1 h
          · rfl
        · rw [ih _ (by simpa using h)]
          simp

/-- The taking of migrations leaves the record of every key that does not wait (R149). -/
theorem takeHeads_lookup (n : Nat) (s : State) (k : RowKey) (h : k ∉ s.queue.urgent ++ s.queue.normal) :
    lookup (takeHeads n s) k = lookup s k := by
  induction n generalizing s with
  | zero => rfl
  | succ n ih =>
    unfold takeHeads
    split
    · rfl
    · split
      · rfl
      · next x rest hq =>
        have hk : k ≠ x := fun e => h ((takeHead_mem hq k).2 (.inl e))
        have hr : k ∉ rest.urgent ++ rest.normal := fun e => h ((takeHead_mem hq k).2 (.inr e))
        dsimp only
        split
        · unfold startAttempt
          dsimp only
          rw [lookup_updateRecord]
          · simp only [hk, if_false]
            exact lookup_congr (by simp) k
          · exact fun _ a => a
        · rw [ih _ (by simpa using hr), condemn, lookup_congr (t := updateRecord x (Record.settle .condemned) (s.setQueue rest))
            (by simp), lookup_updateRecord]
          · simp only [hk, if_false]
            rfl
          · exact fun _ a => a

theorem raise_isSet (a : Attention) (f f' : AttnFlag) : (a.raise f).isSet f' = (decide (f = f') || a.isSet f') := by
  cases f <;> cases f' <;> simp [Attention.raise, Attention.isSet, AttnFlag.bit]

theorem startAttempt_isSet (k : RowKey) (d : SpareIdx) (n : Nat) (s : State) (f : AttnFlag) (h : s.attn.isSet f = true) :
    (startAttempt k d n s).attn.isSet f = true := by
  unfold startAttempt allocate warnLow
  dsimp only
  split <;> simp [raise, raise_isSet, h]

/-- The taking of migrations clears no attention flag. -/
theorem takeHeads_isSet (n : Nat) (s : State) (f : AttnFlag) (h : s.attn.isSet f = true) :
    (takeHeads n s).attn.isSet f = true := by
  induction n generalizing s with
  | zero => exact h
  | succ n ih =>
    unfold takeHeads
    split
    · exact h
    · split
      · exact h
      · dsimp only
        split
        · exact startAttempt_isSet _ _ _ _ _ (by simpa using h)
        · exact ih _ (by simp [condemn, raise, raise_isSet, h])

/-- The taking of migrations leaves the engine's step, and leaves an empty marked-column set empty (R151). -/
theorem takeHeads_engine (n : Nat) (s : State) :
    (takeHeads n s).engine.step = s.engine.step ∧ (s.engine.marked = [] → (takeHeads n s).engine = s.engine) := by
  induction n generalizing s with
  | zero => exact ⟨rfl, fun _ => rfl⟩
  | succ n ih =>
    unfold takeHeads
    split
    · exact ⟨rfl, fun _ => rfl⟩
    · split
      · exact ⟨rfl, fun _ => rfl⟩
      · dsimp only
        split
        · simp only [startAttempt, updateRecord_frame, State.setEngine_engine, allocate_frame, State.setQueue_engine, true_and]
          intro h
          cases he : s.engine
          rw [he] at h
          simp only at h
          rw [h]
        · have := ih (condemn ‹_› (s.setQueue ‹_›))
          simpa using this

/-! ### The persist engine's beginnings -/

/-- A beginning of a program changes no record but its persist-wanted flag (R172, R174). -/
theorem startPersist_lookup {α : Type} (g : Record → α) (hg : ∀ r : Record, g { r with persistWanted := false } = g r)
    (s : State) (k : RowKey) : (lookup (startPersist s) k).map g = (lookup s k).map g := by
  have hmap : ∀ t : List Record, ((t.map fun r => { r with persistWanted := false }).find? fun r => r.key == k).map g =
      (t.find? fun r => r.key == k).map g := by
    intro t
    rw [find_map_key t (fun r => { r with persistWanted := false }) k fun _ => rfl]
    cases t.find? fun r => r.key == k <;> simp [hg]
  unfold startPersist beginProgram storeFull
  split
  · split
    · split
      · rfl
      · exact hmap s.table
    · rfl
  · rfl

/-- A beginning of a program clears no attention flag. -/
theorem startPersist_isSet (s : State) (f : AttnFlag) (h : s.attn.isSet f = true) : (startPersist s).attn.isSet f = true := by
  unfold startPersist beginProgram storeFull
  (repeat' split) <;> simp [raise, raise_isSet, h]

end Sys2Proof.Machine
end

