-- ==== Sys2Proof/Laws/Attempts.lean ====
section
/-! SUPPORT. Laws/Attempts.lean: all that the failure of a migration attempt does (R159, R160), in the terms of
Safety.lean. -/

namespace Sys2Proof.Machine

/-- What a failed attempt does before its retry or its condemnation. -/
def failedBase (r : Record) (d : SpareIdx) (s : State) : State :=
  let s := reportBadSpare ⟨keyPos r.key, d⟩ (burn (keyPos r.key) d s)
  orphanStep (s.setEngine { s.engine with marked := [] })

theorem failAttempt_eq (r : Record) (d : SpareIdx) (s : State) :
    failAttempt r d s = startPersist (
      match (if (r.migration.map MigSub.attempt).getD 3 < 3 then lowestFree (failedBase r d s).spares (keyPos r.key)
        else none) with
      | some d' => startAttempt r.key d' ((r.migration.map MigSub.attempt).getD 3 + 1) (failedBase r d s)
      | none => serveQueue (condemn r.key (failedBase r d s))) := rfl

theorem failedBase_spec (r : Record) (d : SpareIdx) (s : State) :
    (∀ (p : BankPos) (i : SpareIdx), spareState (failedBase r d s).spares p i =
      if p = keyPos r.key ∧ i = d then .burned else spareState s.spares p i) ∧
    (failedBase r d s).counters = { s.counters with sparesBurned := min (s.counters.sparesBurned + 1) 4294967295 } ∧
    (failedBase r d s).table = s.table ∧ (failedBase r d s).queue = s.queue ∧ (failedBase r d s).phase = s.phase ∧
    (failedBase r d s).store = s.store ∧ (failedBase r d s).attn = s.attn ∧ (failedBase r d s).engine.marked = [] ∧
    (failedBase r d s).persist = ⟨if ⟨keyPos r.key, d⟩ ∈ s.persist.badSpares ∨ 8 ≤ s.persist.badSpares.length
      then s.persist.badSpares else s.persist.badSpares ++ [⟨keyPos r.key, d⟩], s.persist.program⟩ ∧
    StepOrphaned s (failedBase r d s) := by
  have hb : ∀ (p : BankPos) (i : SpareIdx), spareState (burn (keyPos r.key) d s).spares p i =
      if p = keyPos r.key ∧ i = d then .burned else spareState s.spares p i := by
    intro p i
    simp only [burn, count_frame]
    exact spareState_setSpare ..
  have he : (reportBadSpare ⟨keyPos r.key, d⟩ (burn (keyPos r.key) d s)).engine = s.engine := by simp
  have hs : (reportBadSpare ⟨keyPos r.key, d⟩ (burn (keyPos r.key) d s)).slot = s.slot := by simp
  refine ⟨fun p i => ?_, ?_, by simp [failedBase], by simp [failedBase], by simp [failedBase], by simp [failedBase],
    by simp [failedBase], ?_, ?_, ?_⟩
  · rw [← hb]; simp [failedBase]
  · simp [failedBase, burn, count, Counters.bump, bumped, counterMax]
  · unfold failedBase orphanStep
    dsimp only
    split
    · simp
    · split <;> simp [freeSlot]
  · have : (failedBase r d s).persist = (reportBadSpare ⟨keyPos r.key, d⟩ (burn (keyPos r.key) d s)).persist := by
      simp [failedBase]
    rw [this, reportBadSpare]
    have hp : (burn (keyPos r.key) d s).persist = s.persist := by simp
    rw [hp]
    simp only [List.contains_iff_mem]
    split <;> simp
  · refine ⟨fun h => ?_, fun st h => ⟨fun found hf => ?_, fun hf => ?_⟩⟩
    · simp [failedBase, orphanStep, h]
    · simp [failedBase, orphanStep, h, hf, freeSlot]
    · have : orphanStep ((reportBadSpare ⟨keyPos r.key, d⟩ (burn (keyPos r.key) d s)).setEngine
          { (reportBadSpare ⟨keyPos r.key, d⟩ (burn (keyPos r.key) d s)).engine with marked := [] }) =
          ((reportBadSpare ⟨keyPos r.key, d⟩ (burn (keyPos r.key) d s)).setEngine
            ⟨[], some { st with leftover := true }⟩) := by
        unfold orphanStep
        simp only [State.setEngine_engine, he, h]
        cases hst : st.stage with
        | awaitHost f => exact absurd hst (hf f)
        | _ => rfl
      unfold failedBase
      dsimp only
      rw [this]
      exact ⟨rfl, hs⟩

/-- What the persist engine holds once the failed attempt's item has been handed on (R171, R172, R174). -/
theorem startPersist_persist (s t : State) (b : SpareName)
    (hp : t.persist = ⟨if b ∈ s.persist.badSpares ∨ 8 ≤ s.persist.badSpares.length
      then s.persist.badSpares else s.persist.badSpares ++ [b], s.persist.program⟩)
    (hph : t.phase = s.phase) (hst : t.store = s.store) : BadSpareHanded s (startPersist t) b := by
  intro items hi
  rw [← hi] at hp
  have hne : items ≠ [] := by
    rw [hi]
    split
    · next h => rintro e; rw [e] at h; simp at h
    · simp
  obtain ⟨b', rest, hb'⟩ := List.exists_cons_of_ne_nil hne
  refine ⟨fun p h => ?_, fun h h' => ?_, fun first n h h' hf hn hl => ?_, fun h h' hn => ?_⟩
  · simp [startPersist, hp, h]
  · simp [startPersist, hph, h', hp, h]
  · have hle : lowestEmpty t.store = some n := by
      rw [hst, lowestEmpty, List.find?_eq_some_iff_getElem]
      refine ⟨by simpa using hn, n.val, by simp, by simp, fun j hj => ?_⟩
      simpa using hl ⟨j, by omega⟩ hj
    rw [hb'] at hf
    obtain rfl : b' = first := by simpa using hf
    simp [startPersist, hph, h', hp, h, chooseItem, hb', beginProgram, hle]
  · have hle : lowestEmpty t.store = none := by
      rw [hst, lowestEmpty, List.find?_eq_none]
      intro m _
      simpa using hn m
    simp [startPersist, hph, h', hp, h, chooseItem, hb', beginProgram, hle, storeFull, raise, raise_isSet]

/-- The persist engine's beginning changes of a record at most the wish to be recorded (R174). -/
theorem startPersist_record {s : State} {k : RowKey} {r : Record} (h : lookup s k = some r) :
    ∃ r' : Record, lookup (startPersist s) k = some r' ∧
      (r' = r ∨ r' = { r with persistWanted := false } ∧ (startPersist s).persist = ⟨[], none⟩) := by
  unfold startPersist beginProgram storeFull
  split
  · split
    · split
      · exact ⟨r, h, .inl rfl⟩
      · refine ⟨{ r with persistWanted := false }, ?_, .inr ⟨rfl, by simp [raise]⟩⟩
        simp only [lookup, raise, State.setAttn, State.setPersist, State.setTable] at *
        rw [find_map_key _ (fun r => { r with persistWanted := false }) _ fun _ => rfl, h]
        rfl
    · exact ⟨r, h, .inl rfl⟩
  · exact ⟨r, h, .inl rfl⟩

/-- All that the failure of an attempt does (R159, R160). -/
theorem failAttempt_spec {r : Record} {g : MigSub} {s : State} (d : SpareIdx) (h : lookup s r.key = some r)
    (hg : r.migration = some g) :
    AttemptFailed s (failAttempt r d s) r g d ∧ StepOrphaned s (failAttempt r d s) := by
  obtain ⟨msp, mc, mt, mq, mph, mst, ma, me, mp, mo⟩ := failedBase_spec r d s
  have hl : lookup (failedBase r d s) r.key = some r := by rw [← h]; exact lookup_congr mt _
  rw [failAttempt_eq, hg]
  generalize failedBase r d s = m at *
  simp only [Option.map_some, Option.getD_some]
  refine ⟨⟨?_, ?_, ?_, ?_, ?_⟩, ?_⟩
  · simp only [startPersist_frame]
    split
    · next d' hd' =>
      split at hd'
      swap
      · cases hd'
      rw [startAttempt_spares, msp]
      have := (lowestFree_some.1 hd').1
      rw [msp] at this
      have hne : d' ≠ d := by rintro rfl; simp at this
      simp [Ne.symm hne]
    · rw [serveQueue, takeHeads_spares] <;> simp [msp]
  · simp only [startPersist_frame]
    split <;> simp [mc, serveQueue]
  · refine startPersist_persist s _ _ ?_ ?_ ?_
    · split <;> simp [mp, serveQueue]
    · split <;> simp [mph, serveQueue]
    · split <;> simp [mst, serveQueue]
  · intro d' hlt hne hfree hlow
    have hlf : lowestFree m.spares (keyPos r.key) = some d' := by
      rw [lowestFree_some]
      refine ⟨by rw [msp]; simp [hne, hfree], fun i hi => ?_⟩
      rw [msp]
      split
      · simp
      · next hne' => exact hlow i hi (by rintro rfl; simp at hne')
    simp only [hlt, if_true, hlf]
    refine ⟨by simp, by simp [mq], by simp [startAttempt], ?_⟩
    have hl' : lookup (startAttempt r.key d' (g.attempt + 1) m) r.key = some (r.startAttempt d' (g.attempt + 1)) := by
      unfold startAttempt
      dsimp only
      rw [lookup_updateRecord _ _ _ (Record.startAttempt d' (g.attempt + 1)) (fun _ a => a), if_pos rfl,
        lookup_congr (t := m) (by simp), hl]
      rfl
    exact startPersist_record hl'
  · intro hcase hq
    have hno : (if g.attempt < 3 then lowestFree m.spares (keyPos r.key) else none) = none := by
      split
      · next hlt =>
        rw [lowestFree_none]
        intro i
        rw [msp]
        split
        · simp
        · next hne => exact (hcase.resolve_left (by omega)) i (by rintro rfl; simp at hne)
      · rfl
    simp only [hno]
    refine ⟨startPersist_isSet _ _ (takeHeads_isSet _ _ _ (by simp [condemn, raise, raise_isSet])), ?_⟩
    have hl' : lookup (serveQueue (condemn r.key m)) r.key = some (r.settle .condemned) := by
      rw [serveQueue, takeHeads_lookup _ _ _ (by simpa [mq] using hq), condemn,
        lookup_congr (t := updateRecord r.key (Record.settle .condemned) m) (by simp),
        lookup_updateRecord _ _ _ (Record.settle .condemned) (fun _ a => a), if_pos rfl, hl]
      rfl
    exact startPersist_record hl'
  · have key : ∀ u : State, u.engine.step = m.engine.step → u.slot = m.slot → StepOrphaned s u := by
      intro u h1 h2
      unfold StepOrphaned at *
      rw [h1, h2]
      exact mo
    split
    · exact key _ (by simp [startAttempt]) (by simp)
    · refine key _ ?_ (by simp [serveQueue])
      simp only [startPersist_frame, serveQueue]
      rw [(takeHeads_engine _ _).1]
      simp

end Sys2Proof.Machine
end

