-- ==== Sys2Proof/Laws/Frames.lean ====
section
/-! SUPPORT. Laws/Frames.lean: a field of a frame and the data field read back as what was sent, and any bits are a field
(spec/03, R35). -/

namespace Sys2Proof.Machine

@[simp] theorem fieldBits_length (w v : Nat) : (fieldBits w v).length = w := by simp [fieldBits]

@[simp] theorem dataBits_length (d : LineData) : (dataBits d).length = 512 := by simp [dataBits]

/-- A field is sent most significant bit first (R35). -/
theorem fieldBits_get (w v i : Nat) (h : i < w) : (fieldBits w v)[i]? = some (v.testBit (w - 1 - i)) := by
  simp [fieldBits, h]

theorem fieldValue_append (bs : List Bool) (b : Bool) : fieldValue (bs ++ [b]) = fieldValue bs * 2 + b.toNat := by
  simp [fieldValue]

/-- A field reads back as its number (R35). -/
theorem fieldValue_fieldBits (w v : Nat) : fieldValue (fieldBits w v) = v % 2 ^ w := by
  induction w generalizing v with
  | zero => simp [fieldBits, fieldValue, Nat.mod_one]
  | succ w ih =>
    have : fieldBits (w + 1) v = fieldBits w (v / 2) ++ [v.testBit 0] := by
      apply List.ext_getElem?
      intro i
      rcases lt_trichotomy i w with h | h | h
      · rw [List.getElem?_append_left (by simp [h]), fieldBits_get _ _ _ (by omega), fieldBits_get _ _ _ h,
          show w + 1 - 1 - i = (w - 1 - i) + 1 by omega, Nat.testBit_succ]
      · subst h
        rw [fieldBits_get _ _ _ (by omega)]
        rw [List.getElem?_append_right (by simp)]
        simp
      · rw [List.getElem?_eq_none (by simp; omega), List.getElem?_eq_none (by simp; omega)]
    rw [this, fieldValue_append, ih, Nat.pow_succ, Nat.mul_comm (2 ^ w) 2, Nat.mod_mul]
    have : (v.testBit 0).toNat = v % 2 := by
      rw [Nat.testBit_zero]; rcases Nat.mod_two_eq_zero_or_one v with h | h <;> simp [h]
    omega

theorem fieldValue_lt (bs : List Bool) : fieldValue bs < 2 ^ bs.length := by
  induction bs using List.reverseRecOn with
  | nil => simp [fieldValue]
  | append_singleton bs b ih => rw [fieldValue_append]; simp [Nat.pow_succ]; cases b <;> simp <;> omega

/-- Any bits are the field of the number that they spell. -/
theorem fieldBits_fieldValue (bs : List Bool) : fieldBits bs.length (fieldValue bs) = bs := by
  induction bs using List.reverseRecOn with
  | nil => simp [fieldBits]
  | append_singleton bs b ih =>
    apply List.ext_getElem?
    intro i
    rw [List.length_append, List.length_singleton, fieldValue_append]
    rcases lt_trichotomy i bs.length with h | h | h
    · rw [fieldBits_get _ _ _ (by omega), List.getElem?_append_left h]
      conv_rhs => rw [← ih]
      rw [fieldBits_get _ _ _ h]
      rw [show bs.length + 1 - 1 - i = (bs.length - 1 - i) + 1 by omega, Nat.testBit_succ]
      congr 2
      cases b
      · simp
      · simp; omega
    · subst h
      rw [fieldBits_get _ _ _ (by omega)]
      simp
      cases b <;> simp
    · rw [List.getElem?_eq_none (by simp; omega), List.getElem?_eq_none (by simp; omega)]

theorem fieldAt_append {a b : List Bool} {start w v : Nat} (h : FieldAt a start w v) (hl : start + w ≤ a.length) :
    FieldAt (a ++ b) start w v := fun i hi => by
  rw [List.getElem?_append_left (by omega)]
  exact h i hi

/-- A frame begins with its kind (R35). -/
theorem frameBits_kind (f : FrameKind) (fields : List Bool) : FieldAt (frameBits f fields) 0 4 f.code.toNat := by
  unfold frameBits
  refine fieldAt_append (fieldAt_append (fun i hi => ?_) (by simp)) (by simp)
  rw [Nat.zero_add, fieldBits_get _ _ _ hi]

/-- A frame ends with its check (R35). -/
theorem frameBits_check (f : FrameKind) (fields : List Bool) : CheckAt (frameBits f fields) (4 + fields.length) := by
  have hl : (fieldBits 4 f.code.toNat ++ fields).length = 4 + fields.length := by simp
  refine ⟨by simp [frameBits]; omega, fun i hi => ?_⟩
  unfold frameBits
  dsimp only
  rw [List.take_left' hl, List.getElem?_append_right (by omega), hl, Nat.add_sub_cancel_left, fieldBits_get _ _ _ hi]

/-- The order of the data bits is its own inverse (log 30). -/
theorem dataOrder_dataOrder (n : Nat) : dataOrder (dataOrder n) = n := by unfold dataOrder; omega

theorem dataOrder_lt (n : Nat) (h : n < 512) : dataOrder n < 512 := by unfold dataOrder; omega

theorem natOfBits_testBit (f : Nat → Bool) (n i : Nat) :
    (natOfBits f n).testBit i = (decide (i < n) && f i) ∧ natOfBits f n < 2 ^ n := by
  induction n generalizing i with
  | zero => simp [natOfBits]
  | succ n ih =>
    have hlt := (ih 0).2
    unfold natOfBits
    split
    · next hf =>
      refine ⟨?_, by rw [Nat.pow_succ]; omega⟩
      rw [Nat.add_comm]
      rcases lt_trichotomy i n with h | h | h
      · rw [Nat.testBit_two_pow_add_gt h, (ih i).1]; simp [h, Nat.lt_succ_of_lt h]
      · subst h
        rw [Nat.testBit_two_pow_add_eq, Nat.testBit_lt_two_pow hlt]; simp [hf]
      · rw [Nat.testBit_lt_two_pow (by calc _ < 2 ^ (n + 1) := by rw [Nat.pow_succ]; omega
                                           _ ≤ 2 ^ i := Nat.pow_le_pow_right (by omega) h)]
        simp; omega
    · next hf =>
      refine ⟨?_, by rw [Nat.pow_succ]; omega⟩
      rw [Nat.add_zero, (ih i).1]
      rcases lt_trichotomy i n with h | h | h
      · simp [h, Nat.lt_succ_of_lt h]
      · subst h; simp [hf]
      · have : ¬ i < n := by omega
        have : ¬ i < n + 1 := by omega
        simp [*]

theorem ofBits_get (n : Nat) (f : Nat → Bool) (i : Nat) (h : i < n) : (ofBits n f).getLsbD i = f i := by
  rw [ofBits, BitVec.getLsbD_ofNat, (natOfBits_testBit f n i).1]; simp [h]

/-- The data field reads back as its data (R35, log 30). -/
theorem dataValue_dataBits (d : LineData) : dataValue (dataBits d) = d := by
  apply BitVec.eq_of_getLsbD_eq
  intro i hi
  rw [dataValue, ofBits_get _ _ _ hi, List.getD_eq_getElem?_getD]
  simp [dataBits, dataOrder_lt i hi, dataOrder_dataOrder]

/-- Any 512 bits are the data field of the data that they spell. -/
theorem dataBits_dataValue (bs : List Bool) (h : bs.length = 512) : dataBits (dataValue bs) = bs := by
  apply List.ext_getElem?
  intro i
  by_cases hi : i < 512
  · simp only [dataBits, List.getElem?_map, List.getElem?_range hi, Option.map_some]
    rw [dataValue, ofBits_get _ _ _ (dataOrder_lt i hi), dataOrder_dataOrder, List.getD_eq_getElem?_getD]
    rw [List.getElem?_eq_getElem (by omega)]; rfl
  · rw [List.getElem?_eq_none (by simp; omega), List.getElem?_eq_none (by omega)]

end Sys2Proof.Machine
end

