-- ==== Sys2Proof/Laws/Port.lean ====
section
/-! SUPPORT. Laws/Port.lean: what each operation on the conversation of the management port leaves untouched. -/

namespace Sys2Proof.Machine

@[simp] theorem shiftOut_frame (bs : List Bool) (s : State) :
    (shiftOut bs s).phase = s.phase ∧ (shiftOut bs s).loadNext = s.loadNext ∧ (shiftOut bs s).link = s.link ∧
    (shiftOut bs s).ops = s.ops ∧ (shiftOut bs s).stamps = s.stamps ∧ (shiftOut bs s).linkOut = s.linkOut ∧
    (shiftOut bs s).table = s.table ∧ (shiftOut bs s).wbQueue = s.wbQueue ∧
    (shiftOut bs s).verifyQueue = s.verifyQueue ∧ (shiftOut bs s).patrol = s.patrol ∧
    (shiftOut bs s).quiet = s.quiet ∧ (shiftOut bs s).hold = s.hold ∧ (shiftOut bs s).slot = s.slot ∧
    (shiftOut bs s).spares = s.spares ∧ (shiftOut bs s).queue = s.queue ∧ (shiftOut bs s).engine = s.engine ∧
    (shiftOut bs s).store = s.store ∧ (shiftOut bs s).persist = s.persist ∧ (shiftOut bs s).params = s.params ∧
    (shiftOut bs s).counters = s.counters ∧ (shiftOut bs s).attn = s.attn ∧ (shiftOut bs s).media = s.media ∧
    (shiftOut bs s).pending = s.pending := by
  simp [shiftOut]

@[simp] theorem answer_frame (a : Answer) (r : Bool) (s : State) :
    (answer a r s).phase = s.phase ∧ (answer a r s).loadNext = s.loadNext ∧ (answer a r s).link = s.link ∧
    (answer a r s).ops = s.ops ∧ (answer a r s).stamps = s.stamps ∧ (answer a r s).linkOut = s.linkOut ∧
    (answer a r s).table = s.table ∧ (answer a r s).wbQueue = s.wbQueue ∧
    (answer a r s).verifyQueue = s.verifyQueue ∧ (answer a r s).patrol = s.patrol ∧
    (answer a r s).quiet = s.quiet ∧ (answer a r s).hold = s.hold ∧ (answer a r s).slot = s.slot ∧
    (answer a r s).spares = s.spares ∧ (answer a r s).queue = s.queue ∧ (answer a r s).engine = s.engine ∧
    (answer a r s).store = s.store ∧ (answer a r s).persist = s.persist ∧ (answer a r s).params = s.params ∧
    (answer a r s).counters = s.counters ∧ (answer a r s).attn = s.attn ∧ (answer a r s).media = s.media ∧
    (answer a r s).pending = s.pending := by
  simp [answer]

@[simp] theorem discardAwaited_frame (s : State) :
    (discardAwaited s).phase = s.phase ∧ (discardAwaited s).loadNext = s.loadNext ∧
    (discardAwaited s).link = s.link ∧ (discardAwaited s).ops = s.ops ∧ (discardAwaited s).stamps = s.stamps ∧
    (discardAwaited s).linkOut = s.linkOut ∧ (discardAwaited s).table = s.table ∧
    (discardAwaited s).wbQueue = s.wbQueue ∧ (discardAwaited s).verifyQueue = s.verifyQueue ∧
    (discardAwaited s).patrol = s.patrol ∧ (discardAwaited s).quiet = s.quiet ∧ (discardAwaited s).hold = s.hold ∧
    (discardAwaited s).slot = s.slot ∧ (discardAwaited s).spares = s.spares ∧ (discardAwaited s).queue = s.queue ∧
    (discardAwaited s).engine = s.engine ∧ (discardAwaited s).store = s.store ∧
    (discardAwaited s).persist = s.persist ∧ (discardAwaited s).params = s.params ∧
    (discardAwaited s).counters = s.counters ∧ (discardAwaited s).attn = s.attn ∧
    (discardAwaited s).media = s.media ∧ (discardAwaited s).pending = s.pending := by
  simp [discardAwaited]

@[simp] theorem dispatchLater_frame (c : PortCommand) (s : State) :
    (dispatchLater c s).phase = s.phase ∧ (dispatchLater c s).loadNext = s.loadNext ∧
    (dispatchLater c s).link = s.link ∧ (dispatchLater c s).ops = s.ops ∧ (dispatchLater c s).stamps = s.stamps ∧
    (dispatchLater c s).linkOut = s.linkOut ∧ (dispatchLater c s).table = s.table ∧
    (dispatchLater c s).wbQueue = s.wbQueue ∧ (dispatchLater c s).verifyQueue = s.verifyQueue ∧
    (dispatchLater c s).patrol = s.patrol ∧ (dispatchLater c s).quiet = s.quiet ∧
    (dispatchLater c s).hold = s.hold ∧ (dispatchLater c s).slot = s.slot ∧
    (dispatchLater c s).spares = s.spares ∧ (dispatchLater c s).queue = s.queue ∧
    (dispatchLater c s).engine = s.engine ∧ (dispatchLater c s).store = s.store ∧
    (dispatchLater c s).persist = s.persist ∧ (dispatchLater c s).params = s.params ∧
    (dispatchLater c s).counters = s.counters ∧ (dispatchLater c s).attn = s.attn ∧
    (dispatchLater c s).media = s.media ∧ (dispatchLater c s).pending = s.pending := by
  simp [dispatchLater]

@[simp] theorem responseTransactionOf_frame (n : Nat) (t : Fin 8) (s : State) :
    (responseTransactionOf n t s).phase = s.phase ∧ (responseTransactionOf n t s).loadNext = s.loadNext ∧
    (responseTransactionOf n t s).link = s.link ∧ (responseTransactionOf n t s).ops = s.ops ∧
    (responseTransactionOf n t s).stamps = s.stamps ∧ (responseTransactionOf n t s).linkOut = s.linkOut ∧
    (responseTransactionOf n t s).table = s.table ∧ (responseTransactionOf n t s).wbQueue = s.wbQueue ∧
    (responseTransactionOf n t s).verifyQueue = s.verifyQueue ∧ (responseTransactionOf n t s).patrol = s.patrol ∧
    (responseTransactionOf n t s).quiet = s.quiet ∧ (responseTransactionOf n t s).hold = s.hold ∧
    (responseTransactionOf n t s).slot = s.slot ∧ (responseTransactionOf n t s).spares = s.spares ∧
    (responseTransactionOf n t s).queue = s.queue ∧ (responseTransactionOf n t s).engine = s.engine ∧
    (responseTransactionOf n t s).store = s.store ∧ (responseTransactionOf n t s).persist = s.persist ∧
    (responseTransactionOf n t s).params = s.params ∧ (responseTransactionOf n t s).counters = s.counters ∧
    (responseTransactionOf n t s).attn = s.attn ∧ (responseTransactionOf n t s).media = s.media ∧
    (responseTransactionOf n t s).pending = s.pending := by
  unfold responseTransactionOf
  dsimp only
  (repeat' split) <;> simp

@[simp] theorem clearPort_frame (s : State) :
    (clearPort s).phase = s.phase ∧ (clearPort s).loadNext = s.loadNext ∧ (clearPort s).link = s.link ∧
    (clearPort s).ops = s.ops ∧ (clearPort s).stamps = s.stamps ∧ (clearPort s).linkOut = s.linkOut ∧
    (clearPort s).table = s.table ∧ (clearPort s).wbQueue = s.wbQueue ∧
    (clearPort s).verifyQueue = s.verifyQueue ∧ (clearPort s).patrol = s.patrol ∧ (clearPort s).quiet = s.quiet ∧
    (clearPort s).hold = s.hold ∧ (clearPort s).slot = s.slot ∧ (clearPort s).spares = s.spares ∧
    (clearPort s).queue = s.queue ∧ (clearPort s).engine = s.engine ∧ (clearPort s).store = s.store ∧
    (clearPort s).persist = s.persist ∧ (clearPort s).params = s.params ∧ (clearPort s).counters = s.counters ∧
    (clearPort s).media = s.media ∧ (clearPort s).pending = s.pending := by
  simp [clearPort]

@[simp] theorem clearTransaction_frame (a : List Byte) (t : Fin 8) (s : State) :
    (clearTransaction a t s).phase = s.phase ∧ (clearTransaction a t s).loadNext = s.loadNext ∧
    (clearTransaction a t s).link = s.link ∧ (clearTransaction a t s).ops = s.ops ∧
    (clearTransaction a t s).stamps = s.stamps ∧ (clearTransaction a t s).linkOut = s.linkOut ∧
    (clearTransaction a t s).table = s.table ∧ (clearTransaction a t s).wbQueue = s.wbQueue ∧
    (clearTransaction a t s).verifyQueue = s.verifyQueue ∧ (clearTransaction a t s).patrol = s.patrol ∧
    (clearTransaction a t s).quiet = s.quiet ∧ (clearTransaction a t s).hold = s.hold ∧
    (clearTransaction a t s).slot = s.slot ∧ (clearTransaction a t s).spares = s.spares ∧
    (clearTransaction a t s).queue = s.queue ∧ (clearTransaction a t s).engine = s.engine ∧
    (clearTransaction a t s).store = s.store ∧ (clearTransaction a t s).persist = s.persist ∧
    (clearTransaction a t s).params = s.params ∧ (clearTransaction a t s).counters = s.counters ∧
    (clearTransaction a t s).media = s.media ∧ (clearTransaction a t s).pending = s.pending := by
  unfold clearTransaction
  dsimp only
  (repeat' split) <;> simp

end Sys2Proof.Machine
end

