-- ==== Sys2Proof/Laws/PortApart.lean ====
section
/-! SUPPORT. Laws/PortApart.lean: the engines do not read the management port: what they do stands beside any change of it. -/

namespace Sys2Proof.Machine

theorem setPort_ite {c : Prop} [Decidable c] (s t : State) (p : Port) :
    (if c then s else t).setPort p = if c then s.setPort p else t.setPort p := apply_ite (State.setPort · p) c s t

theorem startAttempt_setPort (k : RowKey) (d : SpareIdx) (n : Nat) (s : State) (p : Port) :
    startAttempt k d n (s.setPort p) = (startAttempt k d n s).setPort p := by
  have ha : allocate (keyPos k) d (s.setPort p) = (allocate (keyPos k) d s).setPort p :=
    (setPort_ite (raise .sparesLow (setSpare (keyPos k) d .assigned s)) (setSpare (keyPos k) d .assigned s) p).symm
  unfold startAttempt
  rw [ha]
  rfl

theorem takeHeads_setPort (n : Nat) (s : State) (p : Port) :
    takeHeads n (s.setPort p) = (takeHeads n s).setPort p := by
  induction n generalizing s with
  | zero => rfl
  | succ n ih =>
    unfold takeHeads
    rw [setPort_ite, show migrating (s.setPort p) = migrating s from rfl, State.setPort_queue]
    congr 1
    cases s.queue.takeHead with
    | none => rfl
    | some x =>
      dsimp only
      rw [show ((s.setPort p).setQueue x.2).spares = (s.setQueue x.2).spares from rfl]
      cases lowestFree (s.setQueue x.2).spares (keyPos x.1) with
      | none => exact ih (condemn x.1 (s.setQueue x.2))
      | some d => exact startAttempt_setPort x.1 d 1 (s.setQueue x.2) p

theorem serveQueue_setPort (s : State) (p : Port) : serveQueue (s.setPort p) = (serveQueue s).setPort p :=
  takeHeads_setPort _ s p

theorem advanceCursor_setPort (s : State) (p : Port) : advanceCursor (s.setPort p) = (advanceCursor s).setPort p := by
  unfold advanceCursor
  rw [State.setPort_params, State.setPort_patrol]
  cases nextPosition s.params.bankMask s.patrol.row s.patrol.pos with
  | none => rfl
  | some x =>
    dsimp only
    rw [setPort_ite]
    rfl

theorem completeRow_setPort (s : State) (p : Port) : completeRow (s.setPort p) = (completeRow s).setPort p :=
  advanceCursor_setPort (s.setPatrol { s.patrol with current := none }) p

theorem beginRows_setPort (n : Nat) (s : State) (p : Port) :
    beginRows n (s.setPort p) = (beginRows n s).setPort p := by
  induction n generalizing s with
  | zero => rfl
  | succ n ih =>
    unfold beginRows
    rw [setPort_ite, State.setPort_phase, State.setPort_params, State.setPort_patrol]
    congr 1
    dsimp only
    rw [show ∀ v : Patrol, lookup ((s.setPort p).setPatrol v) (cursorKey ((s.setPort p).setPatrol v)) =
      lookup (s.setPatrol v) (cursorKey (s.setPatrol v)) from fun _ => rfl]
    cases lookup (s.setPatrol _) (cursorKey (s.setPatrol _)) with
    | none => rfl
    | some r =>
      dsimp only
      rw [setPort_ite, ← ih]
      congr 2
      exact completeRow_setPort (s.setPatrol _) p

theorem beginRow_setPort (s : State) (p : Port) : beginRow (s.setPort p) = (beginRow s).setPort p :=
  beginRows_setPort _ s p

theorem startPersist_setPort (s : State) (p : Port) : startPersist (s.setPort p) = (startPersist s).setPort p := by
  unfold startPersist
  rw [setPort_ite, show chooseItem (s.setPort p) = chooseItem s from rfl, State.setPort_phase, State.setPort_persist]
  congr 1
  cases chooseItem s with
  | none => rfl
  | some item =>
    dsimp only [beginProgram]
    rw [State.setPort_store]
    cases lowestEmpty s.store <;> rfl

end Sys2Proof.Machine
end

