-- ==== Sys2Proof/Laws/Store.lean ====
section
/-! SUPPORT. Laws/Store.lean: what each operation of the repair store and its load leaves untouched. -/

namespace Sys2Proof.Machine

@[simp] theorem installRepair_frame (k : RowKey) (i : SpareIdx) (s : State) :
    (installRepair k i s).phase = s.phase ∧ (installRepair k i s).loadNext = s.loadNext ∧
    (installRepair k i s).link = s.link ∧ (installRepair k i s).ops = s.ops ∧
    (installRepair k i s).stamps = s.stamps ∧ (installRepair k i s).linkOut = s.linkOut ∧
    (installRepair k i s).wbQueue = s.wbQueue ∧ (installRepair k i s).verifyQueue = s.verifyQueue ∧
    (installRepair k i s).patrol = s.patrol ∧ (installRepair k i s).quiet = s.quiet ∧
    (installRepair k i s).hold = s.hold ∧ (installRepair k i s).slot = s.slot ∧
    (installRepair k i s).queue = s.queue ∧ (installRepair k i s).engine = s.engine ∧
    (installRepair k i s).store = s.store ∧ (installRepair k i s).persist = s.persist ∧
    (installRepair k i s).params = s.params ∧ (installRepair k i s).counters = s.counters ∧
    (installRepair k i s).port = s.port ∧ (installRepair k i s).media = s.media ∧
    (installRepair k i s).pending = s.pending := by
  unfold installRepair
  (repeat' (first | split | (dsimp only; split))) <;> first | (simp; done) | (rename_i h _ _; obtain ⟨_, _, -, -, rfl⟩ := createRecord_spec h; simp)

@[simp] theorem installBadSpare_frame (b : SpareName) (s : State) :
    (installBadSpare b s).phase = s.phase ∧ (installBadSpare b s).loadNext = s.loadNext ∧
    (installBadSpare b s).link = s.link ∧ (installBadSpare b s).ops = s.ops ∧
    (installBadSpare b s).stamps = s.stamps ∧ (installBadSpare b s).linkOut = s.linkOut ∧
    (installBadSpare b s).table = s.table ∧ (installBadSpare b s).wbQueue = s.wbQueue ∧
    (installBadSpare b s).verifyQueue = s.verifyQueue ∧ (installBadSpare b s).patrol = s.patrol ∧
    (installBadSpare b s).quiet = s.quiet ∧ (installBadSpare b s).hold = s.hold ∧
    (installBadSpare b s).slot = s.slot ∧ (installBadSpare b s).queue = s.queue ∧
    (installBadSpare b s).engine = s.engine ∧ (installBadSpare b s).store = s.store ∧
    (installBadSpare b s).persist = s.persist ∧ (installBadSpare b s).params = s.params ∧
    (installBadSpare b s).counters = s.counters ∧ (installBadSpare b s).port = s.port ∧
    (installBadSpare b s).media = s.media ∧ (installBadSpare b s).pending = s.pending := by
  unfold installBadSpare
  (repeat' split) <;> simp

@[simp] theorem consumePending_frame (s : State) :
    (consumePending s).phase = s.phase ∧ (consumePending s).loadNext = s.loadNext ∧
    (consumePending s).ops = s.ops ∧ (consumePending s).stamps = s.stamps ∧ (consumePending s).table = s.table ∧
    (consumePending s).wbQueue = s.wbQueue ∧ (consumePending s).verifyQueue = s.verifyQueue ∧
    (consumePending s).patrol = s.patrol ∧ (consumePending s).quiet = s.quiet ∧ (consumePending s).hold = s.hold ∧
    (consumePending s).slot = s.slot ∧ (consumePending s).spares = s.spares ∧ (consumePending s).queue = s.queue ∧
    (consumePending s).engine = s.engine ∧ (consumePending s).store = s.store ∧
    (consumePending s).persist = s.persist ∧ (consumePending s).params = s.params ∧
    (consumePending s).counters = s.counters ∧ (consumePending s).attn = s.attn ∧
    (consumePending s).port = s.port ∧ (consumePending s).media = s.media ∧
    (consumePending s).pending = s.pending := by
  unfold consumePending
  (repeat' split) <;> simp

@[simp] theorem dropBadSpare_frame (b : SpareName) (s : State) :
    (dropBadSpare b s).phase = s.phase ∧ (dropBadSpare b s).loadNext = s.loadNext ∧
    (dropBadSpare b s).link = s.link ∧ (dropBadSpare b s).ops = s.ops ∧ (dropBadSpare b s).stamps = s.stamps ∧
    (dropBadSpare b s).linkOut = s.linkOut ∧ (dropBadSpare b s).table = s.table ∧
    (dropBadSpare b s).wbQueue = s.wbQueue ∧ (dropBadSpare b s).verifyQueue = s.verifyQueue ∧
    (dropBadSpare b s).patrol = s.patrol ∧ (dropBadSpare b s).quiet = s.quiet ∧ (dropBadSpare b s).hold = s.hold ∧
    (dropBadSpare b s).slot = s.slot ∧ (dropBadSpare b s).spares = s.spares ∧ (dropBadSpare b s).queue = s.queue ∧
    (dropBadSpare b s).engine = s.engine ∧ (dropBadSpare b s).store = s.store ∧
    (dropBadSpare b s).params = s.params ∧ (dropBadSpare b s).counters = s.counters ∧
    (dropBadSpare b s).attn = s.attn ∧ (dropBadSpare b s).port = s.port ∧ (dropBadSpare b s).media = s.media ∧
    (dropBadSpare b s).pending = s.pending := by
  simp [dropBadSpare]

@[simp] theorem ifStillHome_frame (k : RowKey) (i : SpareIdx) (f : Record → Record) (s : State) :
    (ifStillHome k i f s).phase = s.phase ∧ (ifStillHome k i f s).loadNext = s.loadNext ∧
    (ifStillHome k i f s).link = s.link ∧ (ifStillHome k i f s).ops = s.ops ∧
    (ifStillHome k i f s).stamps = s.stamps ∧ (ifStillHome k i f s).linkOut = s.linkOut ∧
    (ifStillHome k i f s).wbQueue = s.wbQueue ∧ (ifStillHome k i f s).verifyQueue = s.verifyQueue ∧
    (ifStillHome k i f s).patrol = s.patrol ∧ (ifStillHome k i f s).quiet = s.quiet ∧
    (ifStillHome k i f s).hold = s.hold ∧ (ifStillHome k i f s).slot = s.slot ∧
    (ifStillHome k i f s).spares = s.spares ∧ (ifStillHome k i f s).queue = s.queue ∧
    (ifStillHome k i f s).engine = s.engine ∧ (ifStillHome k i f s).store = s.store ∧
    (ifStillHome k i f s).persist = s.persist ∧ (ifStillHome k i f s).params = s.params ∧
    (ifStillHome k i f s).counters = s.counters ∧ (ifStillHome k i f s).attn = s.attn ∧
    (ifStillHome k i f s).port = s.port ∧ (ifStillHome k i f s).media = s.media ∧
    (ifStillHome k i f s).pending = s.pending := by
  simp [ifStillHome]

@[simp] theorem settleItem_frame (item : StoreItem) (s : State) :
    (settleItem item s).phase = s.phase ∧ (settleItem item s).loadNext = s.loadNext ∧
    (settleItem item s).link = s.link ∧ (settleItem item s).ops = s.ops ∧ (settleItem item s).stamps = s.stamps ∧
    (settleItem item s).linkOut = s.linkOut ∧ (settleItem item s).wbQueue = s.wbQueue ∧
    (settleItem item s).verifyQueue = s.verifyQueue ∧ (settleItem item s).patrol = s.patrol ∧
    (settleItem item s).quiet = s.quiet ∧ (settleItem item s).hold = s.hold ∧ (settleItem item s).slot = s.slot ∧
    (settleItem item s).spares = s.spares ∧ (settleItem item s).queue = s.queue ∧
    (settleItem item s).engine = s.engine ∧ (settleItem item s).store = s.store ∧
    (settleItem item s).params = s.params ∧ (settleItem item s).counters = s.counters ∧
    (settleItem item s).attn = s.attn ∧ (settleItem item s).port = s.port ∧ (settleItem item s).media = s.media ∧
    (settleItem item s).pending = s.pending := by
  unfold settleItem
  (repeat' split) <;> simp

@[simp] theorem dropItem_frame (item : StoreItem) (s : State) :
    (dropItem item s).phase = s.phase ∧ (dropItem item s).loadNext = s.loadNext ∧
    (dropItem item s).link = s.link ∧ (dropItem item s).ops = s.ops ∧ (dropItem item s).stamps = s.stamps ∧
    (dropItem item s).linkOut = s.linkOut ∧ (dropItem item s).wbQueue = s.wbQueue ∧
    (dropItem item s).verifyQueue = s.verifyQueue ∧ (dropItem item s).patrol = s.patrol ∧
    (dropItem item s).quiet = s.quiet ∧ (dropItem item s).hold = s.hold ∧ (dropItem item s).slot = s.slot ∧
    (dropItem item s).spares = s.spares ∧ (dropItem item s).queue = s.queue ∧
    (dropItem item s).engine = s.engine ∧ (dropItem item s).store = s.store ∧
    (dropItem item s).params = s.params ∧ (dropItem item s).counters = s.counters ∧
    (dropItem item s).attn = s.attn ∧ (dropItem item s).port = s.port ∧ (dropItem item s).media = s.media ∧
    (dropItem item s).pending = s.pending := by
  unfold dropItem
  (repeat' split) <;> simp

@[simp] theorem completeProgram_frame (p : Program) (ok : Bool) (s : State) :
    (completeProgram p ok s).phase = s.phase ∧ (completeProgram p ok s).loadNext = s.loadNext ∧
    (completeProgram p ok s).link = s.link ∧ (completeProgram p ok s).ops = s.ops ∧
    (completeProgram p ok s).stamps = s.stamps ∧ (completeProgram p ok s).linkOut = s.linkOut ∧
    (completeProgram p ok s).wbQueue = s.wbQueue ∧ (completeProgram p ok s).verifyQueue = s.verifyQueue ∧
    (completeProgram p ok s).patrol = s.patrol ∧ (completeProgram p ok s).quiet = s.quiet ∧
    (completeProgram p ok s).hold = s.hold ∧ (completeProgram p ok s).slot = s.slot ∧
    (completeProgram p ok s).spares = s.spares ∧ (completeProgram p ok s).queue = s.queue ∧
    (completeProgram p ok s).engine = s.engine ∧ (completeProgram p ok s).params = s.params ∧
    (completeProgram p ok s).counters = s.counters ∧ (completeProgram p ok s).port = s.port ∧
    (completeProgram p ok s).media = s.media ∧ (completeProgram p ok s).pending = s.pending := by
  unfold completeProgram
  (repeat' split) <;> simp

end Sys2Proof.Machine
end

