-- ==== Sys2Proof/Laws/Transactions.lean ====
section
/-! SUPPORT. Laws/Transactions.lean: the bytes of the management port as the bits that are shifted (spec/11, R179). -/

namespace Sys2Proof.Machine

@[simp] theorem bitsOf_nil : bitsOf [] = [] := rfl

theorem bitsOf_cons (b : Byte) (bs : List Byte) : bitsOf (b :: bs) = fieldBits 8 b.toNat ++ bitsOf bs := rfl

@[simp] theorem bitsOf_length (bs : List Byte) : (bitsOf bs).length = 8 * bs.length := by
  induction bs with
  | nil => rfl
  | cons b bs ih => rw [bitsOf_cons, List.length_append, ih, fieldBits_length, List.length_cons]; omega

/-- Bit `j` of byte `i` as it is shifted: most significant bit first (R179). -/
theorem bitsOf_get (bs : List Byte) (i j : Nat) (h : j < 8) :
    (bitsOf bs)[8 * i + j]? = bs[i]?.map fun b => b.getLsbD (7 - j) := by
  induction bs generalizing i with
  | nil => simp
  | cons b bs ih =>
    rw [bitsOf_cons]
    cases i with
    | zero =>
      rw [List.getElem?_append_left (by simp; omega), Nat.mul_zero, Nat.zero_add, fieldBits_get _ _ _ h]
      rfl
    | succ i =>
      rw [List.getElem?_append_right (by simp; omega), fieldBits_length,
        show 8 * (i + 1) + j - 8 = 8 * i + j by omega, ih]
      simp

/-- Fewer than eight bits make no byte (R179). -/
theorem receivedBytes_short : ∀ {bits : List Bool}, bits.length < 8 → receivedBytes bits = []
  | [], _ | [_], _ | [_, _], _ | [_, _, _], _ | [_, _, _, _], _ | [_, _, _, _, _], _ | [_, _, _, _, _, _], _
  | [_, _, _, _, _, _, _], _ => rfl
  | _ :: _ :: _ :: _ :: _ :: _ :: _ :: _ :: _, h => by simp at h; omega

theorem receivedBytes_field (b : Byte) (bits : List Bool) :
    receivedBytes (fieldBits 8 b.toNat ++ bits) = b :: receivedBytes bits := by
  have h := fieldValue_fieldBits 8 b.toNat
  have e : fieldBits 8 b.toNat = [b.toNat.testBit 7, b.toNat.testBit 6, b.toNat.testBit 5, b.toNat.testBit 4,
      b.toNat.testBit 3, b.toNat.testBit 2, b.toNat.testBit 1, b.toNat.testBit 0] := rfl
  rw [e] at h ⊢
  simp only [List.cons_append, List.nil_append, receivedBytes, h]
  congr 1
  apply BitVec.eq_of_toNat_eq
  simpa using b.isLt

/-- What is shifted is received: the bytes, and the bits of a last partial byte make none (R179). -/
theorem receivedBytes_bitsOf (bs : List Byte) (rest : List Bool) (h : rest.length < 8) :
    receivedBytes (bitsOf bs ++ rest) = bs := by
  induction bs with
  | nil => exact receivedBytes_short h
  | cons b bs ih => rw [bitsOf_cons, List.append_assoc, receivedBytes_field, ih]

/-- Any bits are bytes and fewer than eight bits after them. -/
theorem bitsOf_receivedBytes (bits : List Bool) :
    ∃ rest : List Bool, rest.length < 8 ∧ bits = bitsOf (receivedBytes bits) ++ rest := by
  induction h : bits.length using Nat.strong_induction_on generalizing bits with
  | _ n ih =>
    subst h
    by_cases hl : bits.length < 8
    · exact ⟨bits, hl, by rw [receivedBytes_short hl]; rfl⟩
    · obtain ⟨rest, hr, he⟩ := ih (bits.drop 8).length (by simp; omega) (bits.drop 8) rfl
      have hb : fieldBits 8 (BitVec.ofNat 8 (fieldValue (bits.take 8)) : Byte).toNat = bits.take 8 := by
        have h8 : (bits.take 8).length = 8 := by simp; omega
        have hlt := fieldValue_lt (bits.take 8)
        rw [h8] at hlt
        rw [BitVec.toNat_ofNat, Nat.mod_eq_of_lt hlt]
        have := fieldBits_fieldValue (bits.take 8)
        rwa [h8] at this
      refine ⟨rest, hr, ?_⟩
      conv_lhs => rw [← List.take_append_drop 8 bits, ← hb]
      conv_rhs => rw [← List.take_append_drop 8 bits, ← hb, receivedBytes_field, bitsOf_cons, List.append_assoc, ← he]

end Sys2Proof.Machine
end

