-- ==== Sys2Proof/Laws/Work.lean ====
section
/-! SUPPORT. Laws/Work.lean: the persist engine's choice and its slot in the terms of Safety.lean (R172), which taking
migrations leaves as they are. -/

namespace Sys2Proof.Machine

/-- The engine's choice is the work that NextWork names (R172). -/
theorem chooseItem_of_nextWork {s : State} {item : Option StoreItem}
    (h : NextWork s.persist.badSpares s.table item) : chooseItem s = item := by
  unfold chooseItem
  rcases h with ⟨b, rest, h, rfl⟩ | ⟨h, older, younger, r, i, ht, ho, hw, hh, rfl⟩ | ⟨h, ho, rfl⟩
  · rw [h]
  · rw [h, ht, List.findSome?_append, List.findSome?_eq_none_iff.2 fun x hx => by simp [repairItem, ho x hx]]
    simp [repairItem, hw, hh]
  · rw [h]
    exact List.findSome?_eq_none_iff.2 fun x hx => by simp [repairItem, ho x hx]

theorem lowestEmpty_some {v : Vector StoreSlot 64} {n : Fin 64} (h : LowestEmpty v n) : lowestEmpty v = some n := by
  rw [lowestEmpty, List.find?_eq_some_iff_getElem]
  exact ⟨by simpa using h.1, n.val, by simp, by simp, fun j hj => by simpa using h.2 ⟨j, by omega⟩ hj⟩

theorem lowestEmpty_none {v : Vector StoreSlot 64} (h : ∀ n : Fin 64, v[n] ≠ .empty) : lowestEmpty v = none :=
  List.find?_eq_none.2 fun m _ => by simpa using h m

/-- What a program's beginning looks at is left as it was by a change of records that keeps each one's home and wish. -/
theorem chooseItem_map {s t : State} (f : Record → Record) (hf : ∀ r : Record, repairItem (f r) = repairItem r)
    (ht : t.table = s.table.map f) (hp : t.persist = s.persist) : chooseItem t = chooseItem s := by
  unfold chooseItem
  rw [hp, ht, List.findSome?_map]
  simp [Function.comp_def, hf]

/-- Taking migrations leaves the persist engine's choice as it was (R150, R172). -/
theorem takeHeads_chooseItem (n : Nat) (s : State) : chooseItem (takeHeads n s) = chooseItem s := by
  induction n generalizing s with
  | zero => rfl
  | succ n ih =>
    unfold takeHeads
    split
    · rfl
    · split
      · rfl
      · next k rest _ =>
        dsimp only
        split
        · next d _ =>
          refine chooseItem_map (fun r => if r.key = k then r.startAttempt d 1 else r) (fun r => ?_) ?_ (by simp)
          · split <;> rfl
          · simp [startAttempt, updateRecord]
        · rw [ih]
          refine chooseItem_map (fun r => if r.key = k then r.settle .condemned else r) (fun r => ?_) ?_ (by simp)
          · split <;> rfl
          · simp [condemn, updateRecord]

end Sys2Proof.Machine
end

