-- ==== Sys2Proof/Tests/Slice0.lean ====
section
/-! SUPPORT. Tests/Slice0.lean: the WellFormed smoke test, the worked figures of spec/, and for every statement with hypotheses a
state and operands that meet them. Expected results are the spec's own. -/

namespace Sys2Proof.Machine.Tests

open Sys2Proof Sys2Proof.Machine

set_option maxRecDepth 20000

/-! ### WellFormed refuses -/

/-- RESET_BEGIN's kind is one that the controller sends (R35), so the kind is no cause for a bad frame. -/
theorem test_badFrame_good_kind_refused : (Instr.badFrame (.kind 1)).wellFormed = false := by decide

/-- 13h is PIN, 7Fh CLEAR (R182); 00h opens a response transaction (R179). -/
theorem test_unassigned_assigned_code_refused :
    (Instr.unassignedCommand 0x13 [] 0).wellFormed = false ∧ (Instr.unassignedCommand 0x7F [] 0).wellFormed = false ∧
    (Instr.unassignedCommand 0x00 [] 0).wellFormed = false := by decide

theorem test_wellFormed_accepts :
    (Instr.unassignedCommand 0x23 [] 0).wellFormed = true ∧ (Instr.badFrame (.kind 6)).wellFormed = true ∧
    (Instr.pin [] 0 true).wellFormed = true := by decide

/-! ### Places: the worked decompositions and routing of spec/01 -/

/-- Line 167,779,089: rank 1, bank 6, row 40,961, column 17; line 410,024: rank 0, bank 3, row 100, column 40. -/
theorem test_line_decomposition :
    lineKey 167779089 = ⟨1, 6, 40961⟩ ∧ lineColumn 167779089 = 17 ∧ lineKey 410024 = ⟨0, 3, 100⟩ ∧
    lineColumn 410024 = 40 := by decide

/-- The last line, and the composition of R4. -/
theorem test_line_composition :
    lineKey 268435455 = ⟨1, 15, 65535⟩ ∧ lineColumn 268435455 = 127 ∧ lineOf ⟨1, 6, 40961⟩ 17 = 167779089 ∧
    lineOf ⟨0, 3, 65535⟩ 54 = 268431798 := by decide

/-- Spare 0 is physical row 65,536 (R7); rank 1, bank 6 is bank position 22 (R6). -/
theorem test_spare_row : physRow ⟨0, 3, 100⟩ (.spare 0) = 65536 ∧ keyPos ⟨1, 6, 40961⟩ = 22 := by decide

/-! ### The line code: the worked word of R18 and the worked decodes of spec/02 2.7 -/

/-- The ones of a word. -/
def ones (l : List Nat) : StoredWord := l.foldl (fun w p => w ^^^ BitVec.twoPow 72 p) 0

/-- d0 and d8 set: ones at 0, 2, 3, 4, 8 and 13. -/
theorem test_encode_worked_word : encodeWord 0x101 = ones [0, 2, 3, 4, 8, 13] := by decide

/-- The word of R18 with some positions flipped. -/
def worked (flips : List Nat) : StoredWord := ones ([0, 2, 3, 4, 8, 13] ++ flips)

/-- Cases a, b and c: delivered as written. -/
theorem test_decode_single :
    wordOutcome (worked [13]) = .corrected 13 ∧ wordOutcome (worked [0]) = .corrected 0 ∧
    wordOutcome (worked [64]) = .corrected 64 ∧ delivered (worked [13]) = 0x101 := by decide

/-- Cases d and e. -/
theorem test_decode_uncorrectable :
    wordOutcome (worked [5, 6]) = .uncorrectable ∧ wordOutcome (worked [64, 9, 1]) = .uncorrectable := by decide

/-- Case f: a miscorrection at 38, d31, d33, d43 and d53 wrong. Case g: at 0, d0 wrong. -/
theorem test_decode_miscorrection :
    wordOutcome (worked [40, 50, 60]) = .corrected 38 ∧ delivered (worked [40, 50, 60]) = 0x20080280000101 ∧
    wordOutcome (worked [1, 2, 3]) = .corrected 0 ∧ delivered (worked [1, 2, 3]) = 0x100 := by decide

/-- Case h: CLEAN with d3 wrong. -/
theorem test_decode_silent :
    wordOutcome (worked [1, 2, 4, 7]) = .clean ∧ delivered (worked [1, 2, 4, 7]) = 0x109 := by decide

/-- Cases m1 to m6 of a marked word. -/
theorem test_marked_word :
    showsMark markWord = true ∧ wordOutcome markWord = .uncorrectable ∧
    wordOutcome (markWord ^^^ ones [57]) = .corrected 70 ∧ wordOutcome (markWord ^^^ ones [13]) = .uncorrectable ∧
    wordOutcome (markWord ^^^ ones [64]) = .corrected 63 ∧ wordOutcome (markWord ^^^ ones [16]) = .uncorrectable ∧
    wordOutcome (markWord ^^^ ones [0]) = .uncorrectable := by decide

/-- A stored line of zero data with a bit of a word flipped. -/
def flipped (w p : Nat) : StoredLine := BitVec.twoPow 576 (72 * w + p)

/-- Lines B and D. -/
theorem test_line_corrected :
    lineOutcome (flipped 2 45) = .corrected ∧ firstCorrected 17 (flipped 2 45) = some ⟨17, 2, 45⟩ ∧
    firstCorrected 17 (flipped 5 9 ||| flipped 6 0) = some ⟨17, 5, 9⟩ := by decide

/-- Lines E, F and G. -/
theorem test_line_lost_and_mark :
    lineOutcome (flipped 0 13 ||| flipped 4 5 ||| flipped 4 6) = .uncorrectable ∧ lineOutcome markLine = .mark ∧
    lineOutcome (markLine &&& (BitVec.twoPow 576 288 - 1)) = .uncorrectable := by decide

/-! ### Scoring: the worked case, decay and pace of spec/05 and spec/07 -/

/-- Record (1, 6, 40,961) of spec/05 5.7. -/
def worked57 : Record := .fresh 12 ⟨1, 6, 40961⟩ .hostRead

/-- Steps 1 and 2: weight 64, then 352 with repeat 2. -/
theorem test_score_steps :
    (worked57.correct .default .hostRead ⟨17, 2, 45⟩).weight = 64 ∧
    ((worked57.correct .default .hostRead ⟨17, 2, 45⟩).correct .default .verify ⟨17, 2, 45⟩).weight = 352 ∧
    ((worked57.correct .default .hostRead ⟨17, 2, 45⟩).correct .default .verify ⟨17, 2, 45⟩).signature =
      some ⟨⟨17, 2, 45⟩, 2⟩ := by decide

/-- Step 3: a SUSPECT record of weight 352 decays to 308 and stays SUSPECT; a WATCH record of 64 to 56. -/
theorem test_decay :
    (Record.decay .default { worked57 with weight := 352, state := .suspect }).weight = 308 ∧
    (Record.decay .default { worked57 with weight := 352, state := .suspect }).state = .suspect ∧
    (Record.decay .default { worked57 with weight := 64 }).weight = 56 := by decide

/-- Step 4: the repeat count 3 alone queues the record, at weight 596. -/
theorem test_evaluate_stuck :
    evaluate .default false { worked57 with weight := 596, state := .suspect, signature := some ⟨⟨17, 2, 45⟩, 3⟩ } =
      .enqueue false := by decide

/-- The five settings of 7.8. -/
theorem test_pace_figures :
    paceInterval .default = some 20599 ∧ paceInterval { Params.default with bankMask := 0xFFFF } = some 41198 ∧
    paceInterval { Params.default with period := 60 } = some 1716 ∧
    paceInterval { Params.default with period := 2880, bankMask := 1 } = some 2636718 ∧
    paceInterval { Params.default with period := 60, bankMask := 0x400008 } = some 27465 := by decide

/-- 4.9: of weights 40, 40, 55 and a pinned 20, the older of the 40s is evicted. -/
theorem test_eviction :
    (victim [{ worked57 with slot := 12, weight := 40 }, { worked57 with slot := 31, weight := 20, pinned := true },
      { worked57 with slot := 7, weight := 55 }, { worked57 with slot := 64, weight := 10, poison := [88] },
      { worked57 with slot := 200, weight := 40 }]).map Record.slot = some 12 := by decide

/-! ### The states of the tests -/

/-- The part RUNNING with the link UP. -/
def up : State := { State.reset with phase := .running, link := ⟨.up, false, false⟩ }

/-- A record of row (0, 0, 0). -/
def rec0 : Record := .fresh 0 ⟨0, 0, 0⟩ .hostRead

/-- It with its migration onto spare 0. -/
def moving (m : MigSub) : Record := { rec0 with state := .migrating, destSpare := some 0, migration := some m }

/-- Line 0 holds `v` on its original host row. -/
def holding (v : StoredLine) (s : State) : State := { s with media := ⟨[(0, v)], 0, 0⟩ }

/-- Line 0 holds `v` on spare 0. -/
def holdingSpare (v : StoredLine) (s : State) : State := { s with media := ⟨[(8388608, v)], 0, 0⟩ }

/-- One operation of line 0 stands. -/
def standing (k : OpKind) (t : Option Tag) (st : Stage) (s : State) : State := { s with ops := [⟨0, k, t, st, some false⟩] }

/-- Spare 0 of bank position 0 is ASSIGNED. -/
def assigned0 (s : State) : State := { s with spares := [(0, .assigned)] }

/-- A media read of line 0 that has gone out. -/
def readOut : Stage := .reading .hostRow false 0

theorem outcome_clean : lineOutcome 0 = .clean := by decide
theorem outcome_corrected : lineOutcome 1 = .corrected ∧ firstCorrected 0 1 = some ⟨0, 0, 0⟩ := by decide
theorem outcome_lost : lineOutcome 3 = .uncorrectable := by decide
theorem outcome_mark : lineOutcome markLine = .mark := by decide
theorem outcome_mark_xor : lineOutcome (0 ^^^ markLine) = .mark := by decide

/-- The decodes that the tests use: what line 0 holds is undamaged, damaged in one bit, in two, or the mark. -/
theorem reads_line0 (s : State) (p : Place) (h : storedAt s 0 p = 0) :
    (readLine s 0 p 0).outcome = .clean ∧ (readLine s 0 p 1).outcome = .corrected ∧
    (readLine s 0 p 1).cell = some ⟨0, 0, 0⟩ ∧ (readLine s 0 p 3).outcome = .uncorrectable ∧
    (readLine s 0 p markLine).outcome = .mark := by
  have e0 : (0 : StoredLine) ^^^ 0 = 0 := by decide
  have e1 : (0 : StoredLine) ^^^ 1 = 1 := by decide
  have e3 : (0 : StoredLine) ^^^ 3 = 3 := by decide
  have c : lineColumn 0 = 0 := by decide
  simp only [readLine, h, decodeLine, e0, e1, e3, c, outcome_clean, outcome_corrected, outcome_lost, outcome_mark_xor, if_true,
    and_self]

theorem notMigrating_of_none (s : State) (l : LineAddr) (h : lineRecord s l = none) : NotMigrating s l := by
  intro r e
  rw [h] at e
  cases e

/-! ### Witnesses: states and operands that meet the hypotheses, clause by clause -/

theorem test_witness_StepRunsFrontCommand :
    ({ State.reset with pending := [.clear [] 0, .resetBegin] } : State).pending = .clear [] 0 :: [.resetBegin] ∧
    State.reset.pending = [] := by decide

theorem test_witness_LineAddressNamesPlace :
    lineKey 268435455 = lineKey (lineOf ⟨1, 15, 65535⟩ 127) ∧
    lineColumn 268435455 = lineColumn (lineOf ⟨1, 15, 65535⟩ 127) := by decide

/-- The two rows of one bank position share spare 31. -/
theorem test_witness_PhysicalLinesApart :
    physLine 268435455 .hostRow = physLine 268435455 .hostRow ∧
    physLine 0 (.spare 31) = physLine 4096 (.spare 31) := by decide

theorem test_witness_RoutingByRecord :
    NotMigrating State.reset 0 ∧
    (let s := { State.reset with table := [moving ⟨.copy, 0, 0, 1⟩], engine := ⟨[], some ⟨0, 0, .copyRead, false⟩⟩ }
     lineRecord s 0 = some (moving ⟨.copy, 0, 0, 1⟩) ∧ (moving ⟨.copy, 0, 0, 1⟩).state = .migrating ∧
       copyInFlight s 0 = true) ∧
    rec0.homeSpare = none ∧ ({ rec0 with homeSpare := some 31 } : Record).homeSpare = some 31 := by
  exact ⟨notMigrating_of_none _ _ (by decide), by decide, by decide, by decide⟩

/-- A copy is in flight in three stages of the step's line; not on another line, not in a check, not left over (R13). -/
theorem test_copyInFlight_stages :
    (let at' (st : StepStage) (leftover : Bool) : State := { State.reset with engine := ⟨[], some ⟨0, 0, st, leftover⟩⟩ }
     copyInFlight (at' (.awaitHost .mark) false) 0 = true ∧ copyInFlight (at' .copyWrite false) 0 = true ∧
       copyInFlight (at' .copyRead false) 1 = false ∧ copyInFlight (at' .checkRead false) 0 = false ∧
       copyInFlight (at' .copyRead true) 0 = false) := by decide

/-- R16's data positions: the first and the last, and those of the worked cases of spec/02 (d4, d8, d31, d38). -/
theorem test_data_positions :
    dataPos 0 = 3 ∧ dataPos 4 = 9 ∧ dataPos 8 = 13 ∧ dataPos 31 = 38 ∧ dataPos 38 = 45 ∧ dataPos 63 = 71 := by decide

/-- Two flips, three with a syndrome of 72 and of 71, four that cancel (spec/02, cases d, e, h). -/
theorem test_witness_WordCodeClassifiesDamage :
    (5 : Fin 72) ≠ 6 ∧ syndrome (ones [64, 4, 3]) = 71 ∧ parity (ones [64, 4, 3]) = true ∧
    syndrome (ones [64, 9, 1]) = 72 ∧ parity (ones [64, 9, 1]) = true ∧
    parity (ones [5, 6]) = false ∧ syndrome (ones [5, 6]) ≠ 0 ∧
    parity (ones [1, 2, 4, 7]) = false ∧ syndrome (ones [1, 2, 4, 7]) = 0 := by decide

/-- A write of data and of the mark, to one of two targets and to both. -/
theorem test_witness_LineDecodeInvertsEncode :
    Written up.media (writeLine 0 [.hostRow] (.data 5) up).media 0 [.hostRow] (.data 5) ∧
    Written up.media (writeLine 268435455 [.hostRow, .spare 31] .mark up).media 268435455 [.hostRow, .spare 31] .mark ∧
    Place.hostRow ∈ [Place.hostRow] ∧ Place.spare 31 ∈ [Place.hostRow, Place.spare 31] :=
  ⟨writeLine_written _ _ _ _, writeLine_written _ _ _ _, by decide, by decide⟩

theorem test_witness_LineOutcomeFromWords :
    lineOutcome (0 : StoredLine) ≠ .corrected ∧ lineOutcome (flipped 7 71) = .corrected := by decide

theorem test_witness_LinkResetFrames :
    State.reset.link.state = .down ∧ up.link.state ≠ .down ∧
    (let s := { State.reset with link := ⟨.down, true, false⟩ }
     s.link.state = .down ∧ s.link.resetInProgress = true ∧ s.phase = .loading) ∧
    (let s := { up with link := ⟨.down, true, false⟩ }
     s.link.state = .down ∧ s.link.resetInProgress = true ∧ s.phase = .running) := by decide

theorem test_witness_LinkFaultEntry :
    up.link.state = .up ∧ BadFrameCause.frameCheck.isBad = true ∧ (BadFrameCause.kind 0).isBad = true ∧
    ∃ o ∈ (standing .rd (some 31) .waiting up).ops, o.tag = some 31 := by decide

theorem test_witness_FramesDiscarded :
    State.reset.link.state ≠ .up ∧ BadFrameCause.length.isBad = true ∧
    ({ up with link := ⟨.fault, false, false⟩ } : State).link.state = .fault ∧
    (State.reset.link.state = .down ∧ State.reset.link.resetInProgress = false) := by decide

/-- With 31 requests outstanding the tag 31 is still free. -/
theorem test_witness_RequestsTaken :
    (let s := { up with ops := (List.finRange 31).map fun t => ⟨0, .rd, some (t.castLE (by decide)), .waiting, some false⟩ }
     s.link.state = .up ∧ occupancy s = 31 ∧ ∀ o ∈ s.ops, o.tag ≠ some 31) := by decide

theorem test_witness_ReadIssued :
    (let s := standing .rd (some 0) .waiting up
     headOp s 0 = some ⟨0, .rd, some 0, .waiting, some false⟩ ∧ listsColumn (lineRecord s 0) (lineColumn 0) = false ∧
       wbEntry s 0 = none ∧
       wbEntry { s with wbQueue := [⟨0, .data 7⟩] } 0 = some ⟨0, .data 7⟩ ∧
       wbEntry { s with wbQueue := [⟨0, .mark⟩] } 0 = some ⟨0, .mark⟩ ∧
       listsColumn (lineRecord { s with table := [{ rec0 with poison := [0] }] } 0) (lineColumn 0) = true) := by decide

/-- The read of line 0 is out, and line 0 is undamaged where it is read. -/
def reading (k : OpKind) : State := holding 0 (standing k (some 0) readOut up)

theorem reading_holds (k : OpKind) : storedAt (reading k) 0 .hostRow = 0 := rfl

theorem test_witness_ReadCompleted :
    completing (reading .rd) 0 = some ⟨0, .rd, some 0, readOut, some false⟩ ∧
    mustReserve (reading .rd) 0 .hostRow false (readLine (reading .rd) 0 .hostRow 1) = false ∧
    completing (holding 0 (standing .rd (some 0) (.rereading .hostRow 0) up)) 0 =
      some ⟨0, .rd, some 0, .rereading .hostRow 0, some false⟩ ∧
    listsColumn (lineRecord (reading .rd) 0) (lineColumn 0) = false ∧
    (readLine (reading .rd) 0 .hostRow 0).outcome = .clean ∧ (readLine (reading .rd) 0 .hostRow markLine).outcome = .mark ∧
    (readLine (reading .rd) 0 .hostRow 1).outcome = .corrected ∧
    (readLine (reading .rd) 0 .hostRow 1).cell = some ⟨0, 0, 0⟩ ∧
    (readLine (reading .rd) 0 .hostRow 3).outcome = .uncorrectable := by
  have h := reads_line0 (reading .rd) .hostRow (reading_holds _)
  exact ⟨by decide, rfl, by decide, by decide, h.1, h.2.2.2.2, h.2.1, h.2.2.1, h.2.2.2.1⟩

/-- An operation of line 0 reads spare 0, a migration's destination, which holds zero data. -/
def viaDest (k : OpKind) (tag : Option Tag) (table : List Record) : State :=
  holdingSpare 0 (assigned0 { standing k tag (.reading (.spare 0) true 0) up with table := table, slot := some (.verify 0) })

theorem viaDest_reserved (k : OpKind) (tag : Option Tag) (table : List Record)
    (h : homePlace (lineRecord (viaDest k tag table) 0) = .hostRow) :
    mustReserve (viaDest k tag table) 0 (.spare 0) true (readLine (viaDest k tag table) 0 (.spare 0) 1) = true := by
  have e := (reads_line0 (viaDest k tag table) (.spare 0) rfl).2.1
  simp only [mustReserve, Decode.failsDestination, e, h]
  rfl

/-- A host read, a read half and a verify read, while the record migrates onto spare 0; and a row that migrates no more, or was
released. -/
theorem test_witness_DestinationReadServedAgain :
    (let r := moving ⟨.copy, 1, 0, 1⟩
     let s := viaDest .rd (some 0) [r]
     completing s 0 = some ⟨0, .rd, some 0, .reading (.spare 0) true 0, some false⟩ ∧ lineRecord s 0 = some r ∧
       r.state = .migrating ∧ r.destSpare = some 0 ∧ r.homeSpare ≠ some 0 ∧ r.migration = some ⟨.copy, 1, 0, 1⟩ ∧
       (readLine s 0 (.spare 0) 1).outcome = .corrected ∧ (readLine s 0 (.spare 0) 3).outcome = .uncorrectable) ∧
    completing (viaDest (.mwr 5 1) (some 0) []) 0 =
      some ⟨0, .mwr 5 1, some 0, .reading (.spare 0) true 0, some false⟩ ∧
    completing (viaDest .verify none []) 0 = some ⟨0, .verify, none, .reading (.spare 0) true 0, some false⟩ ∧
    (viaDest .verify none []).slot = some (.verify 0) ∧
    (let s := viaDest .rd (some 0) [{ rec0 with state := .condemned }]
     homePlace (lineRecord s 0) ≠ .spare 0 ∧ ∀ r : Record, lineRecord s 0 = some r → r.state ≠ .migrating) := by
  refine ⟨⟨by decide, by decide, by decide, by decide, by decide, by decide, ?_, ?_⟩, by decide, by decide, by decide, by decide,
    fun r h => ?_⟩
  · exact (reads_line0 _ _ rfl).2.1
  · exact (reads_line0 _ _ rfl).2.2.2.1
  · have e : lineRecord (viaDest .rd (some 0) [{ rec0 with state := .condemned }]) 0 =
      some { rec0 with state := .condemned } := by decide
    rw [e] at h
    cases h
    decide

/-- Served again: a destination's CORRECTED or UNCORRECTABLE decode. Delivered: its CLEAN and MARK ones, those of a destination
that has become the home, and those of a read routed elsewhere (R45). -/
theorem test_mustReserve_boundaries :
    (let s : State := { up with table := [moving ⟨.copy, 1, 0, 1⟩] }
     let got (o : LineOutcome) : Decode := ⟨0, .spare 0, o, 0, none⟩
     mustReserve s 0 (.spare 0) true (got .corrected) = true ∧ mustReserve s 0 (.spare 0) true (got .uncorrectable) = true ∧
       mustReserve s 0 (.spare 0) true (got .clean) = false ∧ mustReserve s 0 (.spare 0) true (got .mark) = false ∧
       mustReserve s 0 .hostRow false (got .corrected) = false ∧
       mustReserve { up with table := [{ rec0 with state := .spared, homeSpare := some 0 }] } 0 (.spare 0) true
         (got .uncorrectable) = false) := by decide

/-- A read that finds its column on the poison list at its issue. -/
theorem test_witness_PoisonListedReturnsPoisoned :
    (let s := { standing .rd (some 0) .waiting up with table := [{ rec0 with poison := [0] }] }
     ∃ u : State, exec (.rdIssue 0) s = .next u ∧ u.linkOut = s.linkOut ++ [.rret 0 .poisoned 0] ∧
       lineRecord u 0 = some { rec0 with poison := [0] } ∧ lineColumn 0 ∈ ({ rec0 with poison := [0] } : Record).poison) :=
  ⟨_, rfl, by decide, by decide, by decide⟩

/-- The media writes of a WR to a row that does not migrate, of a WR and of an MWR to one that does, both rows among the
targets, and to the home alone. -/
theorem test_witness_HostWritePerformed :
    headOp (standing (.wr 5) (some 0) .waiting up) 0 = some ⟨0, .wr 5, some 0, .waiting, some false⟩ ∧
    (let s := standing (.wr 5) (some 0) (.writing [.hostRow] (.data 5) 0) up
     completing s 0 = some ⟨0, .wr 5, some 0, .writing [.hostRow] (.data 5) 0, some false⟩ ∧ NotMigrating s 0 ∧
       awaitedContent s 0 = none) ∧
    (let r := moving ⟨.copy, 1, 0, 1⟩
     let st : Stage := .writing [.hostRow, .spare 0] (.data 5) 0
     let s := { standing (.mwr 5 1) (some 0) st up with table := [r] }
     completing s 0 = some ⟨0, .mwr 5 1, some 0, st, some false⟩ ∧ awaitedContent s 0 = none ∧ lineRecord s 0 = some r ∧
       r.state = .migrating ∧ r.destSpare = some 0 ∧ r.migration = some ⟨.copy, 1, 0, 1⟩ ∧
       Place.spare 0 ∈ [Place.hostRow, .spare 0] ∧ Place.spare 0 ∉ [Place.hostRow] ∧ LineContent.data 5 ≠ .mark) := by
  exact ⟨by decide, ⟨by decide, notMigrating_of_none _ _ (by decide), by decide⟩, by decide⟩

/-- A read half to be issued; one that has read its home; one that has read a destination and is served again. -/
theorem test_witness_MaskedReadHalf :
    (let s := standing (.mwr 5 1) (some 0) .waiting up
     headOp s 0 = some ⟨0, .mwr 5 1, some 0, .waiting, some false⟩ ∧ awaitedContent s 0 = none ∧
       listsColumn (lineRecord s 0) (lineColumn 0) = false ∧
       listsColumn (lineRecord { s with table := [{ rec0 with poison := [0] }] } 0) (lineColumn 0) = true) ∧
    (let s := reading (.mwr 5 1)
     completing s 0 = some ⟨0, .mwr 5 1, some 0, readOut, some false⟩ ∧ awaitedContent s 0 = none ∧
       mustReserve s 0 .hostRow false (readLine s 0 .hostRow 1) = false ∧
       (readLine s 0 .hostRow 0).outcome = .clean ∧ (readLine s 0 .hostRow 1).outcome = .corrected ∧
       (readLine s 0 .hostRow 1).cell = some ⟨0, 0, 0⟩ ∧ (readLine s 0 .hostRow 3).outcome = .uncorrectable ∧
       (readLine s 0 .hostRow markLine).outcome = .mark) ∧
    (let s := viaDest (.mwr 5 1) (some 0) []
     completing s 0 = some ⟨0, .mwr 5 1, some 0, .reading (.spare 0) true 0, some false⟩ ∧
       mustReserve s 0 (.spare 0) true (readLine s 0 (.spare 0) 1) = true) ∧
    completing (standing (.mwr 5 1) (some 0) (.rereading .hostRow 0) up) 0 =
      some ⟨0, .mwr 5 1, some 0, .rereading .hostRow 0, some false⟩ ∧ 63 < 64 := by
  have h := reads_line0 (reading (.mwr 5 1)) .hostRow (reading_holds _)
  exact ⟨by decide, ⟨by decide, by decide, rfl, h.1, h.2.1, h.2.2.1, h.2.2.2.1, h.2.2.2.2⟩,
    ⟨by decide, viaDest_reserved _ _ _ (by decide)⟩, by decide, by decide⟩

/-- Orphans: a read and a masked write to be issued, each with its column listed and not; a read and a read half whose media
reads are out or served again; media writes that are out. -/
theorem test_witness_OrphansSendNothing :
    (∃ u : State, exec (.rdIssue 0) (standing .rd none .waiting up) = .next u) ∧
    (let s := standing .rd none .waiting up
     headOp s 0 = some ⟨0, .rd, none, .waiting, some false⟩ ∧ listsColumn (lineRecord s 0) (lineColumn 0) = false ∧
       wbEntry s 0 = none ∧ wbEntry { s with wbQueue := [⟨0, .data 7⟩] } 0 = some ⟨0, .data 7⟩ ∧
       wbEntry { s with wbQueue := [⟨0, .mark⟩] } 0 = some ⟨0, .mark⟩ ∧
       listsColumn (lineRecord { s with table := [{ rec0 with poison := [0] }] } 0) (lineColumn 0) = true) ∧
    (let s := standing (.mwr 5 1) none .waiting up
     headOp s 0 = some ⟨0, .mwr 5 1, none, .waiting, some false⟩ ∧ listsColumn (lineRecord s 0) (lineColumn 0) = false) ∧
    (let s := holding 0 (standing .rd none (.rereading .hostRow 0) up)
     completing s 0 = some ⟨0, .rd, none, .rereading .hostRow 0, some false⟩ ∧
       (readLine s 0 .hostRow 0).outcome = .clean ∧ (readLine s 0 .hostRow markLine).outcome = .mark ∧
       (readLine s 0 .hostRow 1).outcome = .corrected ∧ (readLine s 0 .hostRow 1).cell = some ⟨0, 0, 0⟩ ∧
       (readLine s 0 .hostRow 3).outcome = .uncorrectable) ∧
    (let s := holding 0 (standing .rd none readOut up)
     completing s 0 = some ⟨0, .rd, none, readOut, some false⟩ ∧
       mustReserve s 0 .hostRow false (readLine s 0 .hostRow 1) = false) ∧
    completing (holding 0 (standing (.mwr 5 1) none readOut up)) 0 = some ⟨0, .mwr 5 1, none, readOut, some false⟩ ∧
    (let s := standing (.wr 5) none (.writing [.hostRow] (.data 5) 0) up
     completing s 0 = some ⟨0, .wr 5, none, .writing [.hostRow] (.data 5) 0, some false⟩ ∧ awaitedContent s 0 = none) ∧
    completing (standing (.mwr 5 1) none (.writing [.hostRow] (.data 5) 0) up) 0 =
      some ⟨0, .mwr 5 1, none, .writing [.hostRow] (.data 5) 0, some false⟩ := by
  have h := reads_line0 (holding 0 (standing .rd none (.rereading .hostRow 0) up)) .hostRow rfl
  exact ⟨⟨_, rfl⟩, by decide, by decide, ⟨by decide, h.1, h.2.2.2.2, h.2.1, h.2.2.1, h.2.2.2.1⟩, ⟨by decide, rfl⟩, by decide,
    by decide, by decide⟩

/-- Line 0 has a record; its signature is absent, the event's cell, another cell once, another cell twice. -/
theorem test_witness_CorrectionEventScored :
    lineRecord { State.reset with table := [rec0] } 0 = some rec0 ∧ rec0.signature = none ∧
    lineRecord { State.reset with table := [{ rec0 with signature := some ⟨⟨0, 0, 0⟩, 15⟩ }] } 0 =
      some { rec0 with signature := some ⟨⟨0, 0, 0⟩, 15⟩ } ∧
    lineRecord { State.reset with table := [{ rec0 with signature := some ⟨⟨0, 0, 1⟩, 1⟩ }] } 0 =
      some { rec0 with signature := some ⟨⟨0, 0, 1⟩, 1⟩ } ∧
    lineRecord { State.reset with table := [{ rec0 with signature := some ⟨⟨0, 0, 1⟩, 2⟩ }] } 0 =
      some { rec0 with signature := some ⟨⟨0, 0, 1⟩, 2⟩ } ∧ (⟨0, 0, 1⟩ : Cell) ≠ ⟨0, 0, 0⟩ := by decide

/-- A poison list that names the column, one with room, a full one. -/
theorem test_witness_LossEventScored :
    lineRecord { State.reset with table := [{ rec0 with poison := [0] }] } 0 = some { rec0 with poison := [0] } ∧
    lineColumn 0 ∈ ({ rec0 with poison := [0] } : Record).poison ∧
    lineColumn 0 ∉ ({ rec0 with poison := [1, 2, 3] } : Record).poison ∧
    ({ rec0 with poison := [1, 2, 3] } : Record).poison.length < 4 ∧
    lineColumn 0 ∉ ({ rec0 with poison := [1, 2, 3, 4] } : Record).poison ∧
    4 ≤ ({ rec0 with poison := [1, 2, 3, 4] } : Record).poison.length := by decide

/-- A blocked and an open WATCH record, and records in the other states; at T_spare the sparing test holds. -/
theorem test_witness_EvaluationOutcomes :
    (true = true ↔ Params.default.tSpare ≤ ({ rec0 with weight := 1024 } : Record).weight ∨
      ∃ g : Signature, ({ rec0 with weight := 1024 } : Record).signature = some g ∧ Params.default.stuck ≤ g.repeats) ∧
    (false = true ↔ Params.default.tSpare ≤ ({ rec0 with weight := 1023 } : Record).weight ∨
      ∃ g : Signature, ({ rec0 with weight := 1023 } : Record).signature = some g ∧ Params.default.stuck ≤ g.repeats) ∧
    rec0.blocked = false ∧ rec0.state = .watch ∧ ({ rec0 with blocked := true } : Record).blocked = true ∧
    ({ rec0 with blocked := true, state := .spared } : Record).state = .spared ∧
    ({ rec0 with state := .queued } : Record).state = .queued ∧ ({ rec0 with state := .condemned } : Record).state = .condemned ∧
    (moving ⟨.copy, 0, 0, 1⟩).state = .migrating := by
  refine ⟨by simp [Params.default], ?_, by decide, by decide, by decide, by decide, by decide, by decide, by decide⟩
  simp [Params.default, rec0, Record.fresh]

/-- The fault table with every slot occupied by SPARED records. -/
def fullTable : List Record :=
  (List.finRange 256).map fun n => { Record.fresh n ⟨1, 0, n.castLE (by decide)⟩ .store with state := .spared, homeSpare := some 0 }

theorem fullTable_full : ∀ n : Fin 256, ∃ r ∈ fullTable, r.slot = n := fun n =>
  ⟨_, List.mem_map.mpr ⟨n, List.mem_finRange n, rfl⟩, rfl⟩

theorem fullTable_spared (r : Record) (h : r ∈ fullTable) : r.state = .spared ∧ r.key.rank = 1 := by
  obtain ⟨n, -, rfl⟩ := List.mem_map.mp h
  exact ⟨rfl, rfl⟩

theorem fullTable_lacks (s : State) (h : s.table = fullTable) : lineRecord s 0 = none := by
  rw [lineRecord, lookup, h, List.find?_eq_none]
  intro r hr
  have := (fullTable_spared r hr).2
  simp only [beq_iff_eq]
  intro e
  rw [e] at this
  exact absurd this (by decide)

/-- A table whose every slot holds an evictable record. -/
def fullOfWatch : List Record := (List.finRange 256).map fun n => Record.fresh n ⟨0, 0, n.castLE (by decide)⟩ .patrol

/-- A free slot 0; a full table of records that may not be evicted; a full table whose oldest record is evicted. -/
theorem test_witness_EventWithoutRecord :
    (lineRecord State.reset 0 = none ∧ ∃ n : Fin 256, ∀ r ∈ State.reset.table, r.slot ≠ n) ∧
    (let s := { State.reset with table := fullTable }
     lineRecord s 0 = none ∧ (∀ n : Fin 256, ∃ r ∈ s.table, r.slot = n) ∧
       ∀ r ∈ s.table, r.state ≠ .watch ∨ r.pinned = true ∨ r.poison ≠ [] ∨ r.overflow = true) ∧
    ((∀ r ∈ State.reset.table, r.slot ≠ 0) ∧ ∀ m : Fin 256, m < 0 → ∃ r ∈ State.reset.table, r.slot = m) ∧
    (let s := { State.reset with table := fullOfWatch }
     lineRecord s 2048 = none ∧ (∀ m : Fin 256, ∃ r ∈ s.table, r.slot = m) ∧
       victim s.table = some (Record.fresh 0 ⟨0, 0, 0⟩ .patrol)) := by
  refine ⟨by decide, ⟨fullTable_lacks _ rfl, fullTable_full, fun r h => .inl ?_⟩, by decide, by decide,
    fun n => ⟨_, List.mem_map.mpr ⟨n, List.mem_finRange n, rfl⟩, rfl⟩, by decide⟩
  rw [(fullTable_spared r h).1]
  decide

theorem test_witness_EvictionChoosesLowestOldest :
    victim [rec0, { rec0 with slot := 1 }] = some rec0 ∧ victim [{ rec0 with pinned := true }] = none ∧
    (∀ n : Fin 256, ∃ r ∈ ({ up with table := fullOfWatch } : State).table, r.slot = n) ∧
    (victim ({ up with table := fullOfWatch } : State).table).map Record.slot = some 0 ∧
    (∀ n : Fin 256, ∃ r ∈ ({ up with table := fullTable } : State).table, r.slot = n) :=
  ⟨by decide, by decide, fun n => ⟨_, List.mem_map.mpr ⟨n, List.mem_finRange n, rfl⟩, rfl⟩, by decide, fullTable_full⟩

theorem test_witness_DecayActsOnRecords :
    (let s := { State.reset with table := [{ rec0 with weight := 1 }] }
     TableLaw s ∧ (∀ r ∈ s.table, HomeLaw r) ∧ (∀ r' ∈ (decayAll s).table, r'.key ≠ rec0.key)) ∧
    rec0.weight = 0 ∧ ({ rec0 with weight := 1 } : Record).weight ≠ 0 ∧
    (let r := { rec0 with weight := 145, state := .suspect }
     r.state = .suspect ∧ Params.default.tSuspect / 2 > (Record.decay .default r).weight) ∧
    (let r := { rec0 with weight := 147, state := .suspect }
     Params.default.tSuspect / 2 ≤ (Record.decay .default r).weight) := by decide

theorem test_witness_GateFollowsPinAndOccupancy :
    State.reset.hold.state = .idle ∧ ({ up with hold := ⟨.inForce, some 50⟩ } : State).hold.state = .inForce ∧
    ({ up with hold := ⟨.expired, none⟩ } : State).hold.state = .expired ∧
    Params.default.quietThreshold < 3 ∧ 2 ≤ Params.default.quietThreshold ∧
    State.reset.quiet.state = .settling ∧ ({ up with quiet := ⟨.notQuiet, none, 3⟩ } : State).quiet.state ≠ .settling := by
  decide

/-- RUNNING, the pace timer running at the default interval. -/
def pacing (credits : Nat) (current : Option Column) : State :=
  { up with patrol := ⟨0, 0, 0, credits, current, some 20599⟩ }

theorem test_witness_PaceTimerEarnsCredits :
    (pacing 63 (some 0)).patrol.paceTimer = some 20599 ∧ (pacing 63 (some 0)).patrol.credits < 64 ∧
    (pacing 64 (some 127)).patrol.credits = 64 ∧ (pacing 64 (some 127)).patrol.current.isSome = true ∧
    (pacing 64 none).patrol.current = none ∧ (pacing 64 none).phase = .running ∧ (pacing 64 none).params.bankMask ≠ 0 ∧
    State.reset.phase = .loading ∧ (pacing 0 none).patrol.credits = 0 ∧ (pacing 1 none).patrol.credits = 0 + 1 ∧
    ({ pacing 1 none with params := { Params.default with bankMask := 0 } } : State).params.bankMask = 0 ∧
    (let r := moving ⟨.copy, 0, 0, 1⟩
     lookup { pacing 1 none with table := [r] } (keyAt 0 0) = some r ∧ r.state = .migrating) ∧
    (∀ r : Record, lookup (pacing 64 none) (keyAt 0 0) = some r → r.state ≠ .migrating) := by
  refine ⟨by decide, by decide, by decide, by decide, by decide, by decide, by decide, by decide, by decide, by decide, by decide,
    by decide, fun r h => ?_⟩
  have : lookup (pacing 64 none) (keyAt 0 0) = none := by decide
  simp [this] at h

theorem test_witness_PaceIntervalBounded :
    ({ Params.default with bankMask := 0 } : Params).bankMask = 0 ∧
    (let p := { Params.default with period := 60 }; p.bankMask ≠ 0 ∧ 60 ≤ p.period ∧ p.period ≤ 2880) ∧
    (let p := { Params.default with period := 2880, bankMask := 1 }; p.bankMask ≠ 0 ∧ p.period ≤ 2880) := by decide

/-- The positions 3 and 22 of spec/07 7.9: inside a row, at its end, at the end of the pass. -/
def masked : Params := { Params.default with bankMask := 0x400008 }

theorem test_witness_PatrolOrderVisitsIncluded :
    (let s := { up with params := masked, patrol := ⟨65535, 3, 7, 1, none, none⟩ }
     s.patrol.pos < (22 : BankPos) ∧ s.params.bankMask.getLsbD 22 = true ∧
       ∀ b : BankPos, s.patrol.pos < b → b < 22 → s.params.bankMask.getLsbD b.val = false) ∧
    (let s := { up with params := masked, patrol := ⟨65534, 22, 7, 1, none, none⟩ }
     (∀ b : BankPos, s.patrol.pos < b → s.params.bankMask.getLsbD b.val = false) ∧
       s.params.bankMask.getLsbD (3 : BankPos).val = true ∧
       (∀ b : BankPos, b < 3 → s.params.bankMask.getLsbD b.val = false) ∧ s.patrol.row.val + 1 < 65536) ∧
    (let s := { up with params := masked, patrol := ⟨65535, 22, 7, 1, none, none⟩ }
     (∀ b : BankPos, s.patrol.pos < b → s.params.bankMask.getLsbD b.val = false) ∧ s.patrol.row.val = 65535) ∧
    ({ up with params := { masked with bankMask := 0 } } : State).params.bankMask = 0 := by decide

/-- A background read of line 0 stands, issued by its holder of the slot. -/
def inSlot (k : OpKind) (h : Holder) (st : Stage) : State :=
  holding 0 { standing k none st up with slot := some h }

theorem test_witness_PatrolLineRead :
    (let s := inSlot .patrol (.patrol 0) .waiting
     s.slot = some (.patrol 0) ∧ headOp s 0 = some ⟨0, .patrol, none, .waiting, some false⟩) ∧
    (let s := { inSlot .patrol (.patrol 0) readOut with patrol := ⟨0, 0, 0, 0, some 126, none⟩ }
     completing s 0 = some ⟨0, .patrol, none, readOut, some false⟩ ∧ s.patrol.current = some 126 ∧
       (readLine s 0 .hostRow 0).outcome = .clean ∧ (readLine s 0 .hostRow 1).outcome = .corrected ∧
       (readLine s 0 .hostRow 1).cell = some ⟨0, 0, 0⟩ ∧ (readLine s 0 .hostRow 3).outcome = .uncorrectable ∧
       (readLine s 0 .hostRow markLine).outcome = .mark ∧ (126 : Column).val + 1 < 128) ∧
    (let s := { inSlot .patrol (.patrol 0) readOut with patrol := ⟨0, 0, 0, 0, some 127, none⟩ }
     completing s 0 = some ⟨0, .patrol, none, readOut, some false⟩ ∧ s.patrol.current = some 127 ∧ s.patrol.credits = 0 ∧
       (readLine s 0 .hostRow 1).outcome = .corrected ∧ (readLine s 0 .hostRow 1).cell = some ⟨0, 0, 0⟩ ∧
       (readLine s 0 .hostRow 3).outcome = .uncorrectable) := by
  have h := reads_line0 { inSlot .patrol (.patrol 0) readOut with patrol := ⟨0, 0, 0, 0, some 126, none⟩ } .hostRow rfl
  have h' := reads_line0 { inSlot .patrol (.patrol 0) readOut with patrol := ⟨0, 0, 0, 0, some 127, none⟩ } .hostRow rfl
  exact ⟨by decide, ⟨by decide, by decide, h.1, h.2.1, h.2.2.1, h.2.2.2.1, h.2.2.2.2, by decide⟩, by decide, by decide, by decide,
    h'.2.1, h'.2.2.1, h'.2.2.2.1⟩

/-- Lines 0 and 4096 share the physical line of spare 31: the operation of line 4096, issued later, is not completing while the
one of line 0 stands, in each form of the clause; the one of line 0 is (R147). -/
theorem test_witness_HostWritePerformed_order :
    (let first : Op := ⟨0, .wr 5, some 0, .writing [.hostRow, .spare 31] (.data 5) 0, none⟩
     let later (k : OpKind) (t : Option Tag) : Op := ⟨4096, k, t, .reading (.spare 31) true 1, some false⟩
     let s (k : OpKind) (t : Option Tag) (slot : Option Holder) (step : Option MigStep) : State :=
       { up with ops := [first, later k t], slot := slot, engine := ⟨[], step⟩ }
     let st : MigStep := ⟨4096, 31, .copyRead, false⟩
     headOp (s .rd (some 1) none none) 4096 = some (later .rd (some 1)) ∧
       first.stage.stamp < (later .rd (some 1)).stage.stamp ∧
       physLine 0 (.spare 31) ∈ first.physLines ∧ physLine 0 (.spare 31) ∈ (later .rd (some 1)).physLines ∧
       completing (s .rd (some 1) none none) 4096 = none ∧ completing (s .rd (some 1) none none) 0 = some first ∧
       headOp (s .verify none (some (.verify 4096)) none) 4096 = some (later .verify none) ∧
       (s .verify none (some (.verify 4096)) none).slot = some (.verify 4096) ∧
       headOp (s .patrol none (some (.patrol 4096)) none) 4096 = some (later .patrol none) ∧
       (s .patrol none (some (.patrol 4096)) none).slot = some (.patrol 4096) ∧
       headOp (s (.writeback .mark) none (some (.writeback 4096)) none) 4096 = some (later (.writeback .mark) none) ∧
       (s (.writeback .mark) none (some (.writeback 4096)) none).slot = some (.writeback 4096) ∧
       headOp (s .copyRead none (some .migration) (some st)) 4096 = some (later .copyRead none) ∧
       (s .copyRead none (some .migration) (some st)).engine.step = some st ∧ st.line = 4096) := by decide

/-- The RUNNING part with the slot free. Entry counts of 8, 7, 1 and 0; a migration, urgent and not, with and without a step; a row
in progress with the credits at the urgent threshold and below it; a verify entry with and without a writeback of its line. -/
theorem test_witness_GrantGoesToHighestRank :
    up.phase = .running ∧ up.slot = none ∧
    award { up with wbQueue := [⟨0, .mark⟩], quiet := ⟨.quiet, none, 0⟩ } = some .writeback ∧ award up = none ∧
    (let q := (List.finRange 8).map fun i => (⟨i.castLE (by decide), .mark⟩ : WbEntry)
     8 ≤ ({ up with wbQueue := q } : State).wbQueue.length ∧ ({ up with wbQueue := q.tail } : State).wbQueue.length = 7 ∧
       1 ≤ ({ up with wbQueue := [⟨0, .mark⟩] } : State).wbQueue.length) ∧
    up.wbQueue = [] ∧
    (let r := moving ⟨.copy, 0, 0, 1⟩
     migrating { up with table := [r] } = some r ∧ up.engine.step = none ∧ (∀ r ∈ up.table, r.state ≠ .migrating) ∧
       migrating { up with table := [{ r with urgent := true }] } = some { r with urgent := true } ∧
       ({ up with engine := ⟨[], some ⟨0, 0, .copyRead, false⟩⟩ } : State).engine.step.isSome = true) ∧
    (let s := { up with patrol := ⟨0, 0, 0, 32, some 127, none⟩ }
     s.patrol.current = some 127 ∧ s.params.urgentThreshold ≤ s.patrol.credits) ∧
    ({ up with patrol := ⟨0, 0, 0, 31, some 0, none⟩ } : State).patrol.credits < up.params.urgentThreshold ∧
    up.patrol.current = none ∧
    (let s := { up with verifyQueue := [0] }; 0 ∈ s.verifyQueue ∧ MayVerify s 0) ∧
    (let s := { up with verifyQueue := [0], wbQueue := [⟨0, .mark⟩] }; s.verifyQueue = [0] ∧ ¬ MayVerify s 0) := by decide

theorem test_witness_GrantIssuesOperation :
    (State.reset.phase = .loading ∧ ({ up with slot := some .migration } : State).slot ≠ none ∧ award up = none) ∧
    up.phase = .running ∧ up.slot = none ∧
    award { up with wbQueue := [⟨0, .mark⟩], quiet := ⟨.quiet, none, 0⟩ } = some .writeback ∧
    (let s := { up with verifyQueue := [0], quiet := ⟨.quiet, none, 0⟩ }; award s = some .verify ∧ nextVerify s = some 0) ∧
    (let s := { up with patrol := ⟨0, 0, 0, 32, some 127, none⟩ }; award s = some .patrol ∧ s.patrol.current = some 127) ∧
    (let r := { moving ⟨.copy, 127, 0, 1⟩ with urgent := true }
     let s := { up with table := [r] }
     award s = some .migration ∧ migrating s = some r ∧ r.destSpare = some 0 ∧ r.migration = some ⟨.copy, 127, 0, 1⟩) ∧
    (let r := { moving ⟨.check, 128, 127, 3⟩ with urgent := true }
     let s := { up with table := [r] }
     award s = some .migration ∧ migrating s = some r ∧ r.migration = some ⟨.check, 128, 127, 3⟩) := by decide

/-- A queue with the line, a full one, one with room for one entry; the same of the verify queue. -/
theorem test_witness_QueueRequestsHandled :
    (let s := { up with wbQueue := [⟨1, .mark⟩, ⟨0, .data 7⟩, ⟨2, .mark⟩] }
     s.wbQueue = [⟨1, .mark⟩] ++ ⟨0, .data 7⟩ :: [⟨2, .mark⟩] ∧ ∀ e ∈ [(⟨1, .mark⟩ : WbEntry)], e.line ≠ 0) ∧
    (let s := { up with wbQueue := (List.finRange 16).map fun i : Fin 16 => ⟨(i.castLE (by decide) : Fin 268435455).succ, .mark⟩ }
     (∀ e ∈ s.wbQueue, e.line ≠ 0) ∧ 16 ≤ s.wbQueue.length) ∧
    (let s := { up with wbQueue := (List.finRange 15).map fun i : Fin 15 => ⟨(i.castLE (by decide) : Fin 268435455).succ, .mark⟩ }
     (∀ e ∈ s.wbQueue, e.line ≠ 0) ∧ s.wbQueue.length < 16) ∧
    (0 : LineAddr) ∈ ({ up with verifyQueue := [0] } : State).verifyQueue ∧
    (let s := { up with verifyQueue := [1, 2, 3, 4, 5, 6, 7, 8] }; 0 ∉ s.verifyQueue ∧ 8 ≤ s.verifyQueue.length) ∧
    (let s := { up with verifyQueue := [1, 2, 3, 4, 5, 6, 7] }; 0 ∉ s.verifyQueue ∧ s.verifyQueue.length < 8) := by decide

theorem test_witness_WritebackPerformed :
    (let s := inSlot (.writeback .mark) (.writeback 0) .waiting
     s.slot = some (.writeback 0) ∧ headOp s 0 = some ⟨0, .writeback .mark, none, .waiting, some false⟩) ∧
    (let r := moving ⟨.copy, 1, 0, 1⟩
     let st : Stage := .writing [.hostRow, .spare 0] .mark 0
     let s := { inSlot (.writeback .mark) (.writeback 0) st with table := [r] }
     completing s 0 = some ⟨0, .writeback .mark, none, st, some false⟩ ∧ lineRecord s 0 = some r ∧ r.state = .migrating ∧
       r.destSpare = some 0 ∧ r.migration = some ⟨.copy, 1, 0, 1⟩ ∧ Place.spare 0 ∈ [Place.hostRow, .spare 0]) ∧
    NotMigrating (inSlot (.writeback .mark) (.writeback 0) (.writing [.hostRow] .mark 0)) 0 := by
  exact ⟨by decide, by decide, notMigrating_of_none _ _ (by decide)⟩

theorem test_witness_VerifyReadPerformed :
    (let s := { up with verifyQueue := [1, 0], wbQueue := [⟨1, .mark⟩] }
     nextVerify s = some 0 ∧ s.verifyQueue = [1] ++ 0 :: [] ∧ MayVerify s 0 ∧ ¬ MayVerify s 1) ∧
    nextVerify up = none ∧
    (let s := viaDest .verify none []
     s.slot = some (.verify 0) ∧ completing s 0 = some ⟨0, .verify, none, .reading (.spare 0) true 0, some false⟩ ∧
       mustReserve s 0 (.spare 0) true (readLine s 0 (.spare 0) 1) = true) ∧
    completing (inSlot .verify (.verify 0) (.rereading .hostRow 0)) 0 =
      some ⟨0, .verify, none, .rereading .hostRow 0, some false⟩ ∧
    (let s := inSlot .verify (.verify 0) .waiting
     s.slot = some (.verify 0) ∧ headOp s 0 = some ⟨0, .verify, none, .waiting, some false⟩) ∧
    (let s := inSlot .verify (.verify 0) readOut
     completing s 0 = some ⟨0, .verify, none, readOut, some false⟩ ∧
       mustReserve s 0 .hostRow false (readLine s 0 .hostRow 1) = false ∧
       (readLine s 0 .hostRow 0).outcome = .clean ∧ (readLine s 0 .hostRow 1).outcome = .corrected ∧
       (readLine s 0 .hostRow 1).cell = some ⟨0, 0, 0⟩ ∧ (readLine s 0 .hostRow 3).outcome = .uncorrectable ∧
       (readLine s 0 .hostRow markLine).outcome = .mark) := by
  have h := reads_line0 (inSlot .verify (.verify 0) readOut) .hostRow rfl
  exact ⟨by decide, by decide, ⟨by decide, by decide, viaDest_reserved _ _ _ (by decide)⟩, by decide, by decide, by decide, rfl,
    h.1, h.2.1, h.2.2.1, h.2.2.2.1, h.2.2.2.2⟩

/-- The engine is idle with one record queued; or busy; or its bank has no FREE spare. -/
theorem test_witness_EngineTakesHead :
    (let s := { up with table := [{ rec0 with state := .queued }], queue := ⟨[], [rec0.key]⟩ }
     s.queue.takeHead = some (rec0.key, ⟨[], []⟩) ∧ migrating s = none ∧ spareState s.spares 0 0 = .free ∧
       ∀ i : SpareIdx, i < 0 → spareState s.spares 0 i ≠ .free) ∧
    migrating { up with table := [moving ⟨.copy, 0, 0, 1⟩], queue := ⟨[], [⟨1, 1, 1⟩]⟩ } = some (moving ⟨.copy, 0, 0, 1⟩) ∧
    (∀ i : SpareIdx, spareState ((List.range 32).map fun i => (i, SpareUse.burned)) 0 i ≠ .free) ∧
    up.queue = ⟨[], []⟩ ∧ ∀ r ∈ up.table, r.state ≠ .migrating := by decide

/-- The copy step of column 0 of the migration onto spare 0. -/
def copying (k : OpKind) (st : Stage) (m : MigSub) (stage : StepStage) : State :=
  { inSlot k .migration st with table := [moving m], spares := [(0, .assigned)], engine := ⟨[], some ⟨0, 0, stage, false⟩⟩ }

theorem test_witness_CopyStepPerformed :
    headOp (copying .copyRead .waiting ⟨.copy, 0, 0, 1⟩ .copyRead) 0 =
      some ⟨0, .copyRead, none, .waiting, some false⟩ ∧
    (let s := copying .copyRead readOut ⟨.copy, 0, 0, 1⟩ .copyRead
     s.engine.step = some ⟨0, 0, .copyRead, false⟩ ∧ completing s 0 = some ⟨0, .copyRead, none, readOut, some false⟩ ∧
       writeStands { s with ops := s.ops.eraseP fun o => o.line == 0 } 0 = false ∧
       (readLine s 0 .hostRow 0).outcome = .clean ∧ (readLine s 0 .hostRow markLine).outcome = .mark ∧
       (readLine s 0 .hostRow 1).outcome = .corrected ∧ (readLine s 0 .hostRow 1).cell = some ⟨0, 0, 0⟩ ∧
       (readLine s 0 .hostRow 3).outcome = .uncorrectable ∧
       lineRecord s 0 = some (moving ⟨.copy, 0, 0, 1⟩)) ∧
    (let s := copying .copyWrite (.writing [.spare 0] .mark 0) ⟨.copy, 127, 0, 1⟩ .copyWrite
     completing s 0 = some ⟨0, .copyWrite, none, .writing [.spare 0] .mark 0, some false⟩ ∧
       lineRecord s 0 = some (moving ⟨.copy, 127, 0, 1⟩) ∧ (moving ⟨.copy, 127, 0, 1⟩).destSpare = some 0 ∧ 127 < 128) ∧
    (let s := { copying .copyRead readOut ⟨.copy, 0, 0, 1⟩ .copyRead with engine := ⟨[], some ⟨0, 0, .copyRead, true⟩⟩ }
     s.engine.step = some ⟨0, 0, .copyRead, true⟩ ∧ completing s 0 = some ⟨0, .copyRead, none, readOut, some false⟩) ∧
    (let s := { copying .copyWrite (.writing [.spare 0] .mark 0) ⟨.copy, 0, 0, 1⟩ .copyWrite with
       engine := ⟨[], some ⟨0, 0, .copyWrite, true⟩⟩ }
     s.engine.step = some ⟨0, 0, .copyWrite, true⟩ ∧
       completing s 0 = some ⟨0, .copyWrite, none, .writing [.spare 0] .mark 0, some false⟩) := by
  have h := reads_line0 (copying .copyRead readOut ⟨.copy, 0, 0, 1⟩ .copyRead) .hostRow rfl
  exact ⟨by decide, ⟨by decide, by decide, by decide, h.1, h.2.2.2.2, h.2.1, h.2.2.1, h.2.2.2.1, by decide⟩, by decide, by decide,
    by decide⟩

/-- A host write stands behind the copy read; the copy waits for a host write, a WR, an MWR and an orphan, whose media writes are
out; a masked write that is given up at its issue, with and without another write behind it; one given up at its read half. -/
theorem test_witness_HostWriteCancelsCopy :
    (let s := { copying .copyRead readOut ⟨.copy, 0, 0, 1⟩ .copyRead with
       ops := [⟨0, .copyRead, none, readOut, some true⟩, ⟨0, .wr 5, some 0, .waiting, none⟩] }
     completing s 0 = some ⟨0, .copyRead, none, readOut, some true⟩ ∧ (readLine s 0 .hostRow 0).outcome = .clean ∧
       (readLine s 0 .hostRow markLine).outcome = .mark ∧ (readLine s 0 .hostRow 1).outcome = .corrected ∧
       (readLine s 0 .hostRow 1).cell = some ⟨0, 0, 0⟩ ∧ (readLine s 0 .hostRow 3).outcome = .uncorrectable ∧
       lineRecord s 0 = some (moving ⟨.copy, 0, 0, 1⟩) ∧
       writeStands { s with ops := s.ops.eraseP fun o => o.line == 0 } 0 = true) ∧
    (let st : Stage := .writing [.hostRow, .spare 0] (.data 5) 0
     let waits (k : OpKind) (tag : Option Tag) : State :=
       { copying k st ⟨.copy, 0, 0, 1⟩ (.awaitHost .mark) with ops := [⟨0, k, tag, st, none⟩] }
     completing (waits (.wr 5) (some 0)) 0 = some ⟨0, .wr 5, some 0, st, none⟩ ∧
       completing (waits (.mwr 5 1) (some 0)) 0 = some ⟨0, .mwr 5 1, some 0, st, none⟩ ∧
       completing (waits (.wr 5) none) 0 = some ⟨0, .wr 5, none, st, none⟩ ∧
       (waits (.wr 5) none).engine.step = some ⟨0, 0, .awaitHost .mark, false⟩ ∧
       lineRecord (waits (.wr 5) none) 0 = some (moving ⟨.copy, 0, 0, 1⟩)) ∧
    (let s := copying (.mwr 5 1) .waiting ⟨.copy, 0, 0, 1⟩ (.awaitHost .mark)
     let s := { s with ops := [⟨0, .mwr 5 1, some 0, .waiting, some false⟩], table := [{ rec0 with poison := [0] }] }
     headOp s 0 = some ⟨0, .mwr 5 1, some 0, .waiting, some false⟩ ∧
       listsColumn (lineRecord s 0) (lineColumn 0) = true ∧
       writeStands { s with ops := s.ops.eraseP fun o => o.line == 0 } 0 = false ∧
       writeStands { s with ops := (s.ops ++ [(⟨0, .wr 5, some 1, .waiting, none⟩ : Op)]).eraseP fun o => o.line == 0 } 0 = true) ∧
    (let s := { copying (.mwr 5 1) readOut ⟨.copy, 0, 0, 1⟩ (.awaitHost .mark) with
       ops := [⟨0, .mwr 5 1, none, readOut, some false⟩] }
     completing s 0 = some ⟨0, .mwr 5 1, none, readOut, some false⟩ ∧ s.engine.step = some ⟨0, 0, .awaitHost .mark, false⟩ ∧
       mustReserve s 0 .hostRow false (readLine s 0 .hostRow 3) = false ∧
       (readLine s 0 .hostRow markLine).outcome = .mark ∧ (readLine s 0 .hostRow 3).outcome = .uncorrectable ∧
       writeStands (ended 0 none (fun t => .wret t .poisonKept) s) 0 = false ∧
       writeStands (ended 0 none (fun t => .wret t .poisonKept)
         { s with ops := s.ops ++ [⟨0, .wr 5, some 1, .waiting, none⟩] }) 0 = true) := by
  refine ⟨⟨by decide, ?_⟩, by decide, by decide, by decide, by decide, rfl, ?_, ?_, by decide, by decide⟩
  · have h := reads_line0 { copying .copyRead readOut ⟨.copy, 0, 0, 1⟩ .copyRead with
       ops := [⟨0, .copyRead, none, readOut, some true⟩, ⟨0, .wr 5, some 0, .waiting, none⟩] } .hostRow rfl
    exact ⟨h.1, h.2.2.2.2, h.2.1, h.2.2.1, h.2.2.2.1, by decide, by decide⟩
  · exact (reads_line0 _ _ rfl).2.2.2.2
  · exact (reads_line0 _ _ rfl).2.2.2.1

/-- The check read of column 0 of the migration onto spare 0, which holds zero data. -/
def checking (m : MigSub) (st : Stage) (leftover : Bool) : State :=
  holdingSpare 0 { standing .checkRead none st up with
    slot := some .migration, table := [moving m], spares := [(0, .assigned)]
    engine := ⟨[], some ⟨0, 0, .checkRead, leftover⟩⟩ }

/-- A check read of the destination that has gone out. -/
def checkOut : Stage := .reading (.spare 0) true 0

theorem test_witness_CheckStepPerformed :
    headOp (checking ⟨.check, 128, 0, 1⟩ .waiting false) 0 = some ⟨0, .checkRead, none, .waiting, some false⟩ ∧
    completing (checking ⟨.check, 128, 0, 1⟩ checkOut true) 0 = some ⟨0, .checkRead, none, checkOut, some false⟩ ∧
    (let s := checking ⟨.check, 128, 126, 1⟩ checkOut false
     lineRecord s 0 = some (moving ⟨.check, 128, 126, 1⟩) ∧ (readLine s 0 (.spare 0) 0).outcome = .clean) ∧
    (let s := { checking ⟨.check, 128, 127, 1⟩ checkOut false with engine := ⟨[0], some ⟨0, 0, .checkRead, false⟩⟩ }
     lineRecord s 0 = some (moving ⟨.check, 128, 127, 1⟩) ∧ (readLine s 0 (.spare 0) 3).outcome = .uncorrectable ∧
       lineColumn 0 ∈ s.engine.marked ∧ (moving ⟨.check, 128, 127, 1⟩).homeSpare = none ∧
       (moving ⟨.check, 128, 127, 1⟩).key ∉ s.queue.urgent ++ s.queue.normal) := by
  refine ⟨by decide, by decide, ⟨by decide, (reads_line0 _ _ rfl).1⟩, by decide, (reads_line0 _ _ rfl).2.2.2.1, by decide,
    by decide, by decide⟩

/-- A last pass of a re-spare, the queue empty, with an idle persist engine: the new repair is the only work, an older record wants
to be recorded, a bad-spare item waits, auto-persist is off, the store is full. -/
theorem test_witness_CheckStepPerformed_respare :
    (let r := { moving ⟨.check, 128, 127, 1⟩ with homeSpare := some 1 }
     let s := { checking ⟨.check, 128, 127, 1⟩ checkOut false with table := [r], spares := [(0, .assigned), (1, .assigned)] }
     let done : Record := { rec0 with state := .spared, homeSpare := some 0, persistWanted := true }
     let older : Record := { done with key := ⟨0, 0, 1⟩, homeSpare := some 5 }
     s.engine.step = some ⟨0, 0, .checkRead, false⟩ ∧ completing s 0 = some ⟨0, .checkRead, none, checkOut, some false⟩ ∧
       lineRecord s 0 = some r ∧ r.migration = some ⟨.check, 128, 127, 1⟩ ∧ (readLine s 0 (.spare 0) 0).outcome = .clean ∧
       r.homeSpare = some 1 ∧ s.queue = ⟨[], []⟩ ∧ r.key ∉ s.queue.urgent ++ s.queue.normal ∧ s.phase = .running ∧
       s.persist.program = none ∧ s.params.autoPersist = true ∧ LowestEmpty s.store 0 ∧
       NextWork s.persist.badSpares [done] (some (.repair ⟨0, 0, 0⟩ 0)) ∧
       NextWork s.persist.badSpares [older, done] (some (.repair ⟨0, 0, 1⟩ 5)) ∧
       NextWork [⟨0, 7⟩] [done] (some (.badSpare ⟨0, 7⟩)) ∧ NextWork [] [{ done with persistWanted := false }] none ∧
       (∀ n : Fin 64, (Vector.replicate 64 StoreSlot.burned)[n] ≠ .empty)) := by
  refine ⟨by decide, by decide, by decide, by decide, (reads_line0 _ _ rfl).1, by decide, by decide, by decide, by decide,
    by decide, by decide, by decide, .inr (.inl ⟨rfl, [], [], _, 0, rfl, by decide, rfl, rfl, rfl⟩),
    .inr (.inl ⟨rfl, [], _, _, 5, rfl, by decide, rfl, rfl, rfl⟩), .inl ⟨_, [], rfl, rfl⟩,
    .inr (.inr ⟨rfl, by decide, rfl⟩), by decide⟩

theorem test_witness_FailedAttemptRetriesOrCondemns :
    (let s := checking ⟨.check, 128, 5, 2⟩ checkOut false
     completing s 0 = some ⟨0, .checkRead, none, checkOut, some false⟩ ∧ lineRecord s 0 = some (moving ⟨.check, 128, 5, 2⟩) ∧
       migrating s = some (moving ⟨.check, 128, 5, 2⟩) ∧ (readLine s 0 (.spare 0) 1).outcome = .corrected ∧
       (readLine s 0 (.spare 0) 3).outcome = .uncorrectable ∧ lineColumn 0 ∉ s.engine.marked ∧
       spareState s.spares 0 1 = .free ∧ (∀ i : SpareIdx, i < 1 → i ≠ 0 → spareState s.spares 0 i ≠ .free) ∧
       (moving ⟨.check, 128, 5, 2⟩).key ∉ s.queue.urgent ++ s.queue.normal) ∧
    3 ≤ (⟨.check, 128, 5, 3⟩ : MigSub).attempt ∧
    (∀ i : SpareIdx, i ≠ 0 → spareState ((List.range 32).map fun i => (i, SpareUse.assigned)) 0 i ≠ .free) ∧
    (let b : SpareName := ⟨0, 0⟩
     up.persist.program = none ∧ up.phase = .running ∧ b ∉ up.persist.badSpares ∧ up.persist.badSpares.length < 8 ∧
       (up.persist.badSpares ++ [b]).head? = some b ∧ up.store[0] = .empty ∧ (∀ m : Fin 64, m < 0 → up.store[m] ≠ .empty) ∧
       (∀ n : Fin 64, ({ up with store := Vector.replicate 64 .burned } : State).store[n] ≠ .empty) ∧
       State.reset.phase = .loading ∧
       ({ up with persist := ⟨[b], some ⟨0, .badSpare b, 1⟩⟩ } : State).persist.program = some ⟨0, .badSpare b, 1⟩) ∧
    up.engine.step = none ∧
    (copying (.wr 5) .waiting ⟨.copy, 0, 0, 1⟩ (.awaitHost .mark)).engine.step = some ⟨0, 0, .awaitHost .mark, false⟩ ∧
    (copying .copyWrite .waiting ⟨.copy, 0, 0, 1⟩ .copyWrite).engine.step = some ⟨0, 0, .copyWrite, false⟩ := by
  have h := reads_line0 (checking ⟨.check, 128, 5, 2⟩ checkOut false) (.spare 0) rfl
  exact ⟨⟨by decide, by decide, by decide, h.2.1, h.2.2.2.1, by decide, by decide, by decide, by decide⟩, by decide, by decide,
    by decide, by decide, by decide, by decide⟩

/-- A program is in flight at the reset; a write is out at the reset, to one row and to two; a line that is read, and one that no
operation is made to; power is lost. -/
theorem test_witness_ResetLeavesVolatileStateFresh :
    ({ up with persist := ⟨[], some ⟨63, .badSpare ⟨0, 0⟩, 1⟩⟩ } : State).persist.program =
      some ⟨63, .badSpare ⟨0, 0⟩, 1⟩ ∧
    (let s := standing (.wr 5) (some 0) (.writing [.hostRow] (.data 5) 0) up
     (∃ u : State, exec (.powerOnReset false false) s = .next u) ∧
       s.ops = [⟨0, .wr 5, some 0, .writing [.hostRow] (.data 5) 0, some false⟩] ∧ ∀ o ∈ s.ops, 1 ∉ o.physLines) ∧
    (∃ u : State, exec (.powerOnReset true true) up = .next u) ∧
    (let o : Op := ⟨0, .wr 5, some 0, .writing [.hostRow, .spare 0] (.data 5) 0, some false⟩
     let s := standing (.wr 5) (some 0) (.writing [.hostRow, .spare 0] (.data 5) 0) up
     s.ops = [o] ∧ headOp s o.line = some o ∧ physLine 0 (.spare 0) = 8388608) ∧
    (let s := standing .rd (some 0) readOut up
     0 ∈ s.ops.flatMap Op.physLines ∧ ∀ o ∈ s.ops, o.stage = readOut) :=
  ⟨by decide, ⟨⟨_, rfl⟩, by decide, by decide⟩, ⟨_, rfl⟩, by decide, by decide⟩

/-- The store of the worked load of spec/10 10.6. -/
def workedStore : Vector StoreSlot 64 :=
  Vector.ofFn fun n =>
    if n.val = 0 then .valid (.repair ⟨0, 3, 100⟩ 0)
    else if n.val = 1 then .valid (.badSpare ⟨3, 1⟩)
    else if n.val = 2 then .valid (.repair ⟨0, 3, 100⟩ 2)
    else if n.val = 3 then .burned
    else if n.val = 4 then .valid (.repair ⟨1, 0, 7⟩ 2)
    else .empty

/-- The state after a command of the load. -/
def loaded (c : Instr) (s : State) : State :=
  match exec c s with
  | .next t => t
  | _ => s

/-- The load after slots 0 and 1. -/
def loaded2 : State := loaded .loadBadSpareSlot (loaded .loadRepairSlot { State.reset with store := workedStore })

/-- 10.6: home 2 replaces home 0 at slot 2; FREE counts 29 and 31 at the end; two records. -/
theorem test_worked_load :
    (let s := loaded .loadRepairSlot (loaded .loadRepairSlot loaded2)
     spareState s.spares 3 0 = .burned ∧ spareState s.spares 3 1 = .burned ∧ spareState s.spares 3 2 = .assigned ∧
       freeCount s.spares 3 = 29 ∧ freeCount s.spares 16 = 31 ∧ s.table.map Record.homeSpare = [some 2, some 2] ∧
       s.attn.flags = 0 ∧ s.counters = Counters.zero) := by decide

theorem test_witness_LoadProcessesSlots :
    (let s := { State.reset with store := workedStore }
     s.phase = .loading ∧ s.loadNext ≤ 0 ∧ s.store[0] = .valid (.repair ⟨0, 3, 100⟩ 0) ∧
       spareState s.spares 3 0 = .free ∧ lookup s ⟨0, 3, 100⟩ = none) ∧
    (let s := loaded2
     s.phase = .loading ∧ s.loadNext = 2 ∧ s.store[2] = .valid (.repair ⟨0, 3, 100⟩ 2) ∧
       (lookup s ⟨0, 3, 100⟩).map Record.homeSpare = some (some 0) ∧ spareState s.spares 3 2 = .free ∧
       (∀ r ∈ s.table, keyPos r.key = 3 → r.homeSpare ≠ some 2)) ∧
    spareState (loaded .loadBadSpareSlot { State.reset with
      store := Vector.replicate 64 (.valid (.badSpare ⟨0, 0⟩)) }).spares 0 0 = .burned ∧
    (let s := { State.reset with loadNext := 63, store := Vector.replicate 64 (.valid (.badSpare ⟨0, 0⟩)) }
     s.phase = .loading ∧ s.loadNext ≤ 63 ∧ s.store[63] = .valid (.badSpare ⟨0, 0⟩) ∧ spareState s.spares 0 0 = .free) ∧
    (let s := { State.reset with spares := [(3, .burned)], store := Vector.replicate 64 (.valid (.repair ⟨0, 0, 0⟩ 3)) }
     s.store[0] = .valid (.repair ⟨0, 0, 0⟩ 3) ∧ spareState s.spares 0 3 = .burned) := by decide

/-- An installation that leaves 3 FREE spares and one that leaves 2, and the same of a burning. -/
theorem test_witness_LoadProcessesSlots_low :
    (let s (n : Nat) := { State.reset with
       spares := (List.range n).map fun i => (i, SpareUse.burned)
       store := Vector.replicate 64 (.valid (.repair ⟨0, 0, 0⟩ 31)) }
     freeCount (loaded .loadRepairSlot (s 28)).spares 0 = 3 ∧ (loaded .loadRepairSlot (s 28)).attn.flags = 0 ∧
       freeCount (loaded .loadRepairSlot (s 29)).spares 0 = 2 ∧ (loaded .loadRepairSlot (s 29)).attn.isSet .sparesLow = true ∧
       spareState (s 29).spares 0 31 = .free ∧ lookup (s 29) ⟨0, 0, 0⟩ = none) ∧
    (let s (n : Nat) := { State.reset with
       spares := (List.range n).map fun i => (i, SpareUse.burned)
       store := Vector.replicate 64 (.valid (.badSpare ⟨0, 31⟩)) }
     (loaded .loadBadSpareSlot (s 28)).attn.flags = 0 ∧ freeCount (loaded .loadBadSpareSlot (s 29)).spares 0 = 2 ∧
       (loaded .loadBadSpareSlot (s 29)).attn.isSet .sparesLow = true) := by decide

theorem test_witness_LoadCompletesIntoRunning :
    State.reset.phase = .loading ∧
    (∀ m : Fin 64, State.reset.loadNext ≤ m.val → State.reset.store[m] = .empty ∨ State.reset.store[m] = .burned) ∧
    State.reset.patrol.credits = 0 ∧ State.reset.persist.badSpares = [] ∧
    (∀ r ∈ State.reset.table, r.persistWanted = false) := by decide

/-- A SPARED record of row (0, 0, 0) on spare 0. -/
def sparedRec : Record := { rec0 with state := .spared, homeSpare := some 0, persistWanted := true }

theorem test_witness_ProgramCompletes :
    (let p : Program := ⟨0, .badSpare ⟨0, 0⟩, 3⟩
     let s := { up with persist := ⟨[⟨0, 0⟩], some p⟩ }
     s.persist.program = some p ∧ s.phase = .running ∧ s.persist.badSpares = [⟨0, 0⟩] ∧
       (∀ r ∈ s.table, r.persistWanted = false) ∧ 3 ≤ p.tries) ∧
    (let p : Program := ⟨63, .repair ⟨0, 0, 0⟩ 0, 3⟩
     let s := { up with persist := ⟨[], some p⟩, table := [sparedRec] }
     s.persist.program = some p ∧ s.persist.badSpares = [] ∧
       (∀ r ∈ s.table, r.persistWanted = true → r.key = ⟨0, 0, 0⟩ ∧ r.homeSpare = some 0)) ∧
    (let p : Program := ⟨0, .badSpare ⟨0, 0⟩, 2⟩
     let s := { up with persist := ⟨[⟨0, 0⟩], some p⟩ }
     p.tries < 3 ∧ (1 : Fin 64) ≠ p.slot ∧ s.store[1] = .empty ∧ ∀ m : Fin 64, m < 1 → m ≠ p.slot → s.store[m] ≠ .empty) ∧
    (let s := { up with store := Vector.replicate 64 .burned }; ∀ n : Fin 64, n ≠ 63 → s.store[n] ≠ .empty) := by decide

/-- Sequence ends with work that waits: a second bad-spare item comes before a record, an older record before a younger one; after
a third slot that failed; in a store whose last EMPTY slot was spent. -/
theorem test_witness_ProgramCompletes_waiting :
    (let p : Program := ⟨0, .badSpare ⟨0, 0⟩, 3⟩
     let s := { up with persist := ⟨[⟨0, 0⟩, ⟨3, 1⟩], some p⟩, table := [sparedRec] }
     s.persist.program = some p ∧ s.phase = .running ∧ 3 ≤ p.tries ∧
       NextWork (s.persist.badSpares.filter fun x => x != ⟨0, 0⟩) s.table (some (.badSpare ⟨3, 1⟩)) ∧
       LowestEmpty (s.store.set p.slot.val (.valid p.item)) 1) ∧
    (let p : Program := ⟨63, .repair ⟨0, 0, 0⟩ 0, 3⟩
     let older : Record := { sparedRec with slot := 1, key := ⟨0, 0, 1⟩, homeSpare := some 1 }
     let younger : Record := { sparedRec with slot := 2, key := ⟨0, 0, 2⟩, homeSpare := some 2 }
     let s := { up with persist := ⟨[], some p⟩, table := [older, sparedRec, younger] }
     s.persist.program = some p ∧
       NextWork s.persist.badSpares (s.table.map fun r =>
         if r.key = ⟨0, 0, 0⟩ ∧ r.homeSpare = some 0 then { r with persistWanted := false } else r)
         (some (.repair ⟨0, 0, 1⟩ 1)) ∧
       ∀ n : Fin 64, ((Vector.replicate 64 StoreSlot.burned).set p.slot.val (.valid p.item))[n] ≠ .empty) := by
  refine ⟨⟨by decide, by decide, by decide, .inl ⟨_, [], by decide, rfl⟩, by decide⟩, by decide,
    .inr (.inl ⟨rfl, [], _, _, 1, rfl, by decide, rfl, rfl, rfl⟩), by decide⟩

/-- An ignored partial transaction, an unassigned code, a wrong count, LOADING, a command that awaits, and a rank of 2. -/
theorem test_witness_PortChecksInOrder :
    (Instr.pin [0, 0, 0, 0] 1 true).wellFormed = true ∧
    transaction (.pin [0, 0, 0, 0] 1 true) = some (0x13, [0, 0, 0, 0], 1, true) ∧
    (Instr.unassignedCommand 0x23 [] 0).wellFormed = true ∧ argumentCount 0x23 = none ∧
    transaction (.unassignedCommand 0x23 [] 0) = some (0x23, [], 0, true) ∧
    argumentCount 0x13 = some 4 ∧ ([0, 0, 0] : List Byte).length ≠ 4 ∧ State.reset.phase = .loading ∧ (0x13 : Byte) ≠ 0x01 ∧
    ({ up with port := ⟨none, some ⟨.clearCounters, false⟩, false, []⟩ } : State).port.awaiting.isSome = true ∧
    up.phase = .running ∧ up.port.awaiting = none ∧ outOfRange 0x13 [2, 0, 0, 0] = true ∧
    outOfRange 0x13 [1, 15, 255, 255] = false ∧ outOfRange 0x31 [64] = true ∧ outOfRange 0x31 [63] = false ∧
    outOfRange 0x40 [15, 0, 0, 0, 0] = true ∧ outOfRange 0x40 [14, 0, 0, 0, 0] = false := by decide

theorem test_witness_TakeUpCompletesPending :
    (Instr.pin [0, 0, 0, 0] 0 false).wellFormed = true ∧
    transaction (.pin [0, 0, 0, 0] 0 false) = some (0x13, [0, 0, 0, 0], 0, false) ∧
    transaction (.pin [0, 0, 0, 0] 0 true) = some (0x13, [0, 0, 0, 0], 0, true) ∧
    argumentCount 0x13 = some ([0, 0, 0, 0] : List Byte).length ∧ outOfRange 0x13 [0, 0, 0, 0] = false ∧ PortReady up ∧
    (let s := { up with table := [rec0], port := ⟨none, some ⟨.pin ⟨0, 0, 0⟩, true⟩, false, []⟩ }
     s.port.awaiting = some ⟨.pin ⟨0, 0, 0⟩, true⟩ ∧ lookup s ⟨0, 0, 0⟩ = some rec0) ∧
    State.reset.port.awaiting = none := by decide

/-- STATUS may stand as PENDING in LOADING too (R183). -/
theorem test_witness_TakeUpCompletesPending_status :
    State.reset.phase = .loading ∧ State.reset.port.awaiting = none ∧
    transaction (.status [] 0 false) = some (0x01, [], 0, false) ∧
    transaction (.status [] 0 true) = some (0x01, [], 0, true) ∧ argumentCount 0x01 = some ([] : List Byte).length ∧
    outOfRange 0x01 [] = false := by decide

/-- No response held; a STATUS response that reports the restart flag set, clocked out whole. -/
theorem test_witness_ResponseShiftedOut :
    State.reset.port.held = none ∧
    (let h : Held := ⟨.ok, statusReport { up with port := ⟨none, none, true, []⟩ }, true⟩
     h.isReport = true ∧ h.data[1]? = some 1 ∧ 24 < 25 ∧ (statusReport up)[1]? = some 0) := by decide

theorem test_witness_QueriesAnswerReports :
    State.reset.port.awaiting = none ∧ PortReady up ∧ lookup up ⟨0, 0, 0⟩ = none ∧
    (let s := { up with table := [rec0, { sparedRec with slot := 255, key := ⟨0, 0, 1⟩ }] }
     lookup s ⟨0, 0, 0⟩ = some rec0 ∧ s.table = [] ++ rec0 :: [{ sparedRec with slot := 255, key := ⟨0, 0, 1⟩ }] ∧
       rec0.slot = 0 ∧ (∃ r ∈ s.table, r.slot = 255) ∧ (0 : Fin 256) < 255 ∧
       (∀ i : Fin 256, 0 < i → i < 255 → ∀ r ∈ s.table, r.slot ≠ i) ∧ (∀ r ∈ s.table, ¬ (255 : Fin 256) < r.slot) ∧
       ∀ r ∈ s.table, r.slot ≠ 1) := by decide

/-- A record with four poisoned columns; an idle and a busy engine; spares that are FREE, BURNED, a home and a destination; slots
of each kind. -/
theorem test_witness_ReportsHaveTheirLengths :
    ({ rec0 with poison := [1, 2, 3, 4] } : Record).poison.length ≤ 4 ∧ migrating up = none ∧
    (let r := { moving ⟨.check, 128, 5, 2⟩ with homeSpare := some 1 }
     let s := { up with table := [r], spares := [(0, .assigned), (1, .assigned), (31, .burned)] }
     migrating s = some r ∧ r.migration = some ⟨.check, 128, 5, 2⟩ ∧ spareState s.spares 0 2 = .free ∧
       spareState s.spares 0 31 = .burned ∧ spareState s.spares 0 0 = .assigned ∧ spareState s.spares 0 1 = .assigned ∧
       keyPos r.key = 0 ∧ r.homeSpare = some 1 ∧ r.homeSpare ≠ some 0 ∧ r.destSpare = some 0 ∧
       ∀ r' ∈ s.table, keyPos r'.key = 0 → r'.homeSpare = some 0 ∨ r'.destSpare = some 0 → r' = r) ∧
    workedStore[63] = .empty ∧ workedStore[3] = .burned ∧ workedStore[0] = .valid (.repair ⟨0, 3, 100⟩ 0) ∧
    workedStore[1] = .valid (.badSpare ⟨3, 1⟩) := by decide

/-- SPARE_MAP of bank position 3 after the worked load of spec/10 10.6, laid out by hand from R165 and R182: FREE count 29, spares 0
and 1 BURNED, spare 2 the home of row (0, 3, 100). -/
theorem test_spare_map_worked :
    (spareMapReport (loaded .loadRepairSlot (loaded .loadRepairSlot loaded2)) 3).take 19 =
      [29, 2, 0xFF, 0xFF, 0xFF, 0xFF, 0xFF, 2, 0xFF, 0xFF, 0xFF, 0xFF, 0xFF, 1, 0, 0, 3, 0, 100] := by decide

theorem test_witness_RecordCommandsTakeEffect :
    PortReady { up with table := [rec0] } ∧ lookup { up with table := [rec0] } ⟨0, 0, 0⟩ = some rec0 ∧
    rec0.homeSpare = none ∧ rec0.state = .watch ∧ sparedRec.homeSpare.isSome = true ∧
    (let s := { up with table := [rec0] }
     lookup s ⟨0, 0, 1⟩ = none ∧ (∀ r ∈ s.table, r.slot ≠ 1) ∧ ∀ m : Fin 256, m < 1 → ∃ r ∈ s.table, r.slot = m) ∧
    (let s := { up with table := fullTable }
     lookup s ⟨0, 0, 0⟩ = none ∧ (∀ n : Fin 256, ∃ r ∈ s.table, r.slot = n) ∧ ∀ r ∈ s.table, r.evictable = false) := by
  refine ⟨by decide, by decide, by decide, by decide, by decide, by decide, fullTable_lacks _ rfl, fullTable_full, fun r h => ?_⟩
  simp [Record.evictable, (fullTable_spared r h).1]

/-- A full table of WATCH records of weight 0: the oldest is evicted. -/
theorem fullOfWatch_evicts : Evicts { up with table := fullOfWatch } [] (Record.fresh 0 ⟨0, 0, 0⟩ .patrol) fullOfWatch.tail := by
  refine ⟨by decide, fun n => ⟨_, List.mem_map.mpr ⟨n, List.mem_finRange n, rfl⟩, rfl⟩, ?_, rfl, rfl, rfl, rfl, by simp,
    fun _ _ _ => Nat.zero_le _⟩
  decide

theorem test_witness_RecordCommandsTakeEffect_evicts :
    (let s := { up with table := fullOfWatch }
     PortReady s ∧ lookup s ⟨1, 0, 0⟩ = none ∧
       ∃ (before after : List Record) (v : Record), Evicts s before v after) :=
  ⟨by decide, by decide, _, _, _, fullOfWatch_evicts⟩

theorem test_witness_SparingCommandsTakeEffect :
    (let s := { up with table := [rec0] }; PortReady s ∧ lookup s ⟨0, 0, 0⟩ = some rec0 ∧ rec0.state = .watch) ∧
    (let r := { rec0 with state := .condemned }
     r.state = .condemned ∧ freeCount up.spares 0 = 32 ∧
       freeCount ((List.range 32).map fun i => (i, SpareUse.burned)) 0 = 0) ∧
    ({ rec0 with state := .queued } : Record).state = .queued ∧
    (let s := copying .copyRead readOut ⟨.copy, 0, 0, 1⟩ .copyRead
     PortReady s ∧ lookup s ⟨0, 0, 0⟩ = some (moving ⟨.copy, 0, 0, 1⟩) ∧ (moving ⟨.copy, 0, 0, 1⟩).destSpare = some 0 ∧
       s.engine.step = some ⟨0, 0, .copyRead, false⟩ ∧
       ∀ c : LineContent, StepStage.copyRead ≠ .awaitHost c) ∧
    (copying (.wr 5) .waiting ⟨.copy, 0, 0, 1⟩ (.awaitHost .mark)).engine.step = some ⟨0, 0, .awaitHost .mark, false⟩ ∧
    (let r := { sparedRec with persistWanted := false }
     let s := { up with table := [r] }
     lookup s ⟨0, 0, 0⟩ = some r ∧ r.persisted = false ∧ r.state = .spared ∧ r.homeSpare = some 0 ∧ s.persist = ⟨[], none⟩ ∧
       (∀ r' ∈ s.table, r'.persistWanted = false) ∧ s.store[0] = .empty ∧ ∀ m : Fin 64, m < 0 → s.store[m] ≠ .empty) ∧
    ({ sparedRec with persisted := true } : Record).persisted = true ∧
    ({ up with persist := ⟨[], some ⟨0, .badSpare ⟨0, 0⟩, 1⟩⟩ } : State).persist.program = some ⟨0, .badSpare ⟨0, 0⟩, 1⟩ ∧
    lookup up ⟨0, 0, 0⟩ = none := by
  refine ⟨by decide, by decide, by decide, ⟨by decide, by decide, by decide, by decide, fun c => ?_⟩, by decide, by decide,
    by decide, by decide, by decide⟩
  simp

/-- PERSIST behind a bad-spare item, and in a full store; FORCE_SPARE that evicts. -/
theorem test_witness_SparingCommandsTakeEffect_work :
    (let r := { sparedRec with persistWanted := false }
     let s := { up with table := [r], persist := ⟨[⟨3, 1⟩], none⟩ }
     PortReady s ∧ lookup s ⟨0, 0, 0⟩ = some r ∧ s.persist.program = none ∧ LowestEmpty s.store 0 ∧
       NextWork s.persist.badSpares [sparedRec] (some (.badSpare ⟨3, 1⟩)) ∧
       ∀ n : Fin 64, ({ s with store := Vector.replicate 64 .burned } : State).store[n] ≠ .empty) ∧
    (let s := { up with table := fullOfWatch }
     PortReady s ∧ lookup s ⟨1, 0, 0⟩ = none ∧ ∃ (before after : List Record) (v : Record), Evicts s before v after) :=
  ⟨⟨by decide, by decide, by decide, by decide, .inl ⟨_, [], rfl, rfl⟩, by decide⟩, by decide, by decide, _, _, _,
    fullOfWatch_evicts⟩

/-- The examples of R186, and the boundary values of the clauses. -/
theorem test_witness_SetParamClampsAndSets :
    PortReady up ∧ ParamId.tSpare.range = (1, 4095) ∧
    ((9000 : BitVec 32).toNat > ParamId.tSpare.range.2 ∧ ¬ 4095 ≤ up.params.tSuspect) ∧
    ((0 : BitVec 32).toNat < ParamId.tSpare.range.1 ∧ 1 ≤ up.params.tSuspect) ∧
    ((5000 : BitVec 32).toNat > ParamId.tSuspect.range.2 ∧ up.params.tSpare ≤ 4095) ∧
    (1 ≤ (1000 : BitVec 32).toNat ∧ (1000 : BitVec 32).toNat ≤ ParamId.dwell.range.2) ∧
    up.patrol.credits = 0 ∧ Nat.testBit 1 up.patrol.pos.val = true ∧ (pacing 64 (some 0)).patrol.current.isSome = true := by
  decide

/-- A mask that excludes the cursor's position with no row patrol in progress, one that includes it with a credit left, and one set
while a row patrol is in progress. -/
theorem test_witness_SetParamClampsAndSets_mask :
    ParamId.bankMask.range.1 ≤ (2 : BitVec 32).toNat ∧ (2 : BitVec 32).toNat ≤ ParamId.bankMask.range.2 ∧
    up.patrol.current = none ∧ Nat.testBit 2 up.patrol.pos.val = false ∧ Nat.testBit 3 up.patrol.pos.val = true ∧
    (loaded (.setParam [0x09, 0, 0, 0, 2] 0 true) up).patrol.pos = 1 ∧
    (pacing 1 none).patrol.credits = 1 ∧ (pacing 1 (some 0)).patrol.current.isSome = true := by decide

/-- R186: T_spare set to 9,000 is ADJUSTED to 4,095; set to 0 it is refused; T_suspect set to 5,000 is refused. -/
theorem test_setParam_examples :
    (setParameter .tSpare 9000 up).2 = (.adjusted, [0x05, 0, 0, 0x0F, 0xFF]) ∧
    (setParameter .tSpare 0 up).2 = (.badArgument, []) ∧ (setParameter .tSuspect 5000 up).2 = (.badArgument, []) := by decide

theorem test_witness_AttentionAndClear :
    PortReady up ∧ up.phase = .running ∧
    ({ up with attn := ⟨0x40, 0x3FF⟩ } : State).attnAsserted = true ∧
    ({ up with attn := ⟨0x40, 0x3BF⟩ } : State).attnAsserted = false := by decide

/-- R191, R192: a session of spec/11 11.8, step 8: bit 6 is acknowledged. -/
theorem test_ack_bit6 :
    (loaded (.ackAttention [0x00, 0x40] 0 true) { up with attn := ⟨0x40, 0x3BF⟩ }).attn = ⟨0, 0x3BF⟩ := by decide

/-- spec/11 11.8, step 1: READ_STORE with one argument byte while LOADING is BUSY. -/
theorem test_busy_while_loading :
    (loaded (.readStore [0] 0 true) State.reset).port.held = some ⟨.busy, [], false⟩ := by decide

/-- spec/11 11.8, step 6: the hold timer expires. -/
theorem test_hold_expires :
    (let s := loaded .holdTimerExpiry (loaded .holdNAssertion up)
     s.hold.state = .expired ∧ s.counters.holdExpired = 1 ∧ s.attn.isSet .holdExpired = true ∧ s.attnAsserted = true) := by
  decide

/-- spec/06 6.8, step 3: a request merges into its line's entry of a full queue. -/
theorem test_full_queue_merges :
    (let s := { up with wbQueue := (List.finRange 16).map fun i => ⟨i.castLE (by decide), .data 7⟩ }
     (requestWriteback 6 .mark false s).wbQueue.map WbEntry.content =
       (List.replicate 6 (.data 7)) ++ [.mark] ++ List.replicate 9 (.data 7) ∧
     (requestWriteback 99 .mark false s).counters.wbDropped = 1) := by decide

/-- spec/07 7.9, step 5: the row of a migration is skipped with its credit, and the pass completes. -/
theorem test_end_of_pass :
    (let s := { up with params := { masked with period := 60 }, patrol := ⟨65535, 3, 7, 1, none, some 27465⟩
                        table := [{ moving ⟨.copy, 0, 0, 1⟩ with key := ⟨1, 6, 65535⟩ }] }
     let t := beginRow (completeRow s)
     t.patrol.row = 0 ∧ t.patrol.pos = 3 ∧ t.patrol.passNumber = 8 ∧ t.patrol.credits = 0 ∧ t.patrol.current = none) := by
  decide

/-- spec/09 9.10, step 10: the check of a column fails; spare 1 takes the second attempt. -/
theorem test_failed_attempt :
    (let s := { up with table := [moving ⟨.check, 128, 5, 1⟩], spares := [(0, .assigned)] }
     let t := failAttempt (moving ⟨.check, 128, 5, 1⟩) 0 s
     t.table.map Record.destSpare = [some 1] ∧ t.table.map Record.migration = [some ⟨.copy, 0, 0, 2⟩] ∧
       t.spares = [(0, .burned), (1, .assigned)] ∧ t.counters.sparesBurned = 1 ∧ freeCount t.spares 0 = 30) := by decide

/-- A migration in progress with its copy read issued, and a queued record. -/
def busyState : State := { up with
  table := [moving ⟨.copy, 5, 0, 1⟩, { rec0 with slot := 1, key := ⟨0, 0, 1⟩, state := .queued }]
  queue := ⟨[], [⟨0, 0, 1⟩]⟩, spares := [(0, .assigned)], slot := some .migration
  engine := ⟨[], some ⟨5, 0, .copyRead, false⟩⟩, ops := [⟨5, .copyRead, none, .waiting, some false⟩]
  pending := [.copyReadPerform, .abortMigration [0, 0, 0, 0] 0 true] }

theorem test_witness_RepairStateStaysLawful : RepairLaw busyState ∧ ∃ t : State, step busyState = .next t := by
  refine ⟨⟨by decide, by decide, by decide, fun st h _ => ?_, by decide, by decide, fun h => by cases h⟩, _, rfl⟩
  cases h
  exact ⟨_, List.mem_cons_self, by decide, by decide, by decide⟩

theorem test_witness_FaultTableStaysLawful :
    TableLaw busyState ∧ (∀ r ∈ busyState.table, ScoreLaw r ∧ DestinationLaw r) ∧ ∃ t : State, step busyState = .next t :=
  ⟨by decide, by decide, _, rfl⟩

theorem test_witness_MediaAndQueuesStayLawful :
    (∃ t : State, step busyState = .next t) ∧ TagsDistinct busyState ∧ WbQueueLaw busyState ∧ VerifyQueueLaw busyState ∧
    CreditLaw busyState ∧ BadSpareLaw busyState ∧ MediaLaw busyState ∧ SlotLaw busyState ∧ HolderLaw busyState :=
  ⟨⟨_, rfl⟩, by decide, by decide, by decide, by decide, by decide, by decide, by decide,
    ⟨5, 0, .copyRead, false⟩, by decide, ⟨5, .copyRead, none, .waiting, some false⟩, by decide, by decide, by decide⟩

/-- The load has processed a slot, and a link reset is complete and waits. -/
theorem test_witness_LoadingStaysIdle :
    (let s := { State.reset with
       link := ⟨.down, false, true⟩, loadNext := 1, table := [{ sparedRec with persistWanted := false }]
       spares := [(0, .assigned)], pending := [.loadCompletion] }
     LoadLaw s ∧ ∃ t : State, step s = .next t) := by
  refine ⟨fun _ => ⟨by decide, by decide, by decide, by decide, by decide, by decide, by decide, by decide, by decide,
    by decide, by decide, by decide, fun a h => by cases h⟩, _, rfl⟩

/-- A step from a state of the LOADING phase and from one with a program in flight. -/
theorem test_witness_StoreNeverEmptiesAgain :
    (let s := { up with persist := ⟨[], some ⟨0, .badSpare ⟨0, 0⟩, 1⟩⟩, pending := [.persistProgramComplete true] }
     StoreLaw s ∧ ∃ t : State, step s = .next t ∧ t.store[0] = .valid (.badSpare ⟨0, 0⟩)) :=
  ⟨⟨by decide, fun p h => by cases h; decide⟩, _, rfl, by decide⟩

/-- A frame; runs of bits that are too short, whose check does not match, whose kind the controller does not send, and of a wrong
length for their kind. -/
theorem test_witness_FramesReadBack :
    hostFrame .resetBegin = some (frameBits .resetBegin []) ∧ (List.replicate 19 false).length < 20 ∧
    (∃ bits : List Bool, bits.length = 4 + 16 ∧ FieldAt bits 0 4 (1 : BitVec 4).toNat ∧ ¬ CheckAt bits 4) ∧
    (∃ bits : List Bool, bits.length = 4 + 16 ∧ FieldAt bits 0 4 (12 : BitVec 4).toNat ∧ CheckAt bits 4 ∧
      (12 : BitVec 4) ∉ hostFrameKinds) ∧
    ∃ bits : List Bool, bits.length = 4 + 16 ∧ FieldAt bits 0 4 FrameKind.rd.code.toNat ∧ CheckAt bits 4 ∧
      FrameKind.rd.code ∈ hostFrameKinds ∧ bits.length ≠ (FrameKind.rd.fields.map FrameField.bits).sum := by
  refine ⟨rfl, by decide, ?_, ?_, ?_⟩
  · refine ⟨fieldBits 4 1 ++ List.replicate 16 (!((Config.frameCheck (fieldBits 4 1)).toNat.testBit 15)), by simp,
      fieldAt_append (fun i hi => by rw [Nat.zero_add, fieldBits_get _ _ _ hi]; rfl) (by simp), fun h => ?_⟩
    have e := h.2 0 (by decide)
    rw [List.take_left' (by simp), List.getElem?_append_right (by simp)] at e
    simp at e
  · exact ⟨frameBits .ready [], (frameBits_check .ready []).1, frameBits_kind .ready [], frameBits_check .ready [], by decide⟩
  · exact ⟨frameBits .rd [], (frameBits_check .rd []).1, frameBits_kind .rd [], frameBits_check .rd [], by decide,
      by rw [(frameBits_check .rd []).1]; decide⟩

/-- The frame lengths, summed by hand from the fields of R35. -/
theorem test_frame_lengths :
    allFrameKinds.map FrameKind.length = [53, 565, 629, 20, 20, 539, 27, 20] := by decide

/-- An RD of tag 3 and line 5, written out bit by bit from R35 up to its frame check: kind 0001, tag 00011, the line 28 bits. -/
theorem test_rd_frame :
    (frameBits .rd (requestBits 3 5)).take 37 =
      [false, false, false, true] ++ [false, false, false, true, true] ++ List.replicate 25 false ++ [true, false, true] := by
  have h : (fieldBits 4 FrameKind.rd.code.toNat ++ requestBits 3 5).length = 37 := by decide
  rw [frameBits, List.take_left' h]
  decide

/-- R179: 13h, 0001 0011, opens PIN; its key 1, 6, A001h follows, then three bits of a byte that is not received. -/
theorem test_pin_bits :
    readTransaction ([false, false, false, true, false, false, true, true] ++
      [false, false, false, false, false, false, false, true] ++ [false, false, false, false, false, true, true, false] ++
      [true, false, true, false, false, false, false, false] ++ [false, false, false, false, false, false, false, true] ++
      [true, true, true]) true = some (.pin [1, 6, 0xA0, 1] 3 true) := by decide

/-- A partial command transaction, a complete response transaction and seven bits. -/
theorem test_witness_PortChecksInOrder_bits :
    ([true, true, true] : List Bool).length = (3 : Fin 8).val ∧ (0x13 : Byte) ≠ 0 ∧
    ([] : List Bool).length = (0 : Fin 8).val ∧ (List.replicate 7 true).length < 8 ∧ 8 ≤ (bitsOf [0]).length := by decide

/-- Work that waits, an EMPTY slot and a full store; an engine that programs, and the LOADING part. -/
theorem test_witness_ProgramCompletes_idle :
    (let s := { up with table := [rec0, sparedRec] }
     s.phase = .running ∧ s.persist.program = none ∧
       NextWork s.persist.badSpares s.table (some (.repair ⟨0, 0, 0⟩ 0)) ∧ LowestEmpty s.store 0 ∧
       ∀ n : Fin 64, ({ s with store := Vector.replicate 64 .burned } : State).store[n] ≠ .empty) ∧
    NextWork up.persist.badSpares up.table none ∧ State.reset.phase = .loading ∧
    ({ up with persist := ⟨[], some ⟨0, .badSpare ⟨0, 0⟩, 1⟩⟩ } : State).persist.program.isSome = true :=
  ⟨⟨by decide, by decide, .inr (.inl ⟨rfl, [rec0], [], _, 0, rfl, by decide, rfl, rfl, rfl⟩), by decide, by decide⟩,
    .inr (.inr ⟨rfl, by decide, rfl⟩), by decide, by decide⟩

end Sys2Proof.Machine.Tests
end

section
/-! PROOFS. Places and routing (O2, O3, O4). -/

namespace Sys2Proof.Machine

/-! ### Places (R3 to R7) -/

theorem lineColumn_val (l : LineAddr) : (lineColumn l).val = l.val % 128 := rfl
theorem lineKey_bank_val (l : LineAddr) : (lineKey l).bank.val = l.val / 128 % 16 := rfl
theorem lineKey_rank_val (l : LineAddr) : (lineKey l).rank.val = l.val / 2048 % 2 := rfl
theorem lineKey_row_val (l : LineAddr) : (lineKey l).row.val = l.val / 4096 := rfl

theorem lineOf_val (k : RowKey) (c : Column) :
    (lineOf k c).val = k.row.val * 4096 + k.rank.val * 2048 + k.bank.val * 128 + c.val := rfl

theorem keyPos_val (k : RowKey) : (keyPos k).val = k.rank.val * 16 + k.bank.val := rfl

/-- Row key and column name one line (R3). -/
theorem line_ext {l l' : LineAddr} (hk : lineKey l = lineKey l') (hc : lineColumn l = lineColumn l') : l = l' := by
  have hb := congrArg (fun k => k.bank.val) hk
  have hr := congrArg (fun k => k.rank.val) hk
  have hw := congrArg (fun k => k.row.val) hk
  have hv := congrArg Fin.val hc
  simp only [lineKey_bank_val, lineKey_rank_val, lineKey_row_val, lineColumn_val] at hb hr hw hv
  apply Fin.ext
  omega

theorem lineColumn_lineOf (k : RowKey) (c : Column) : lineColumn (lineOf k c) = c := by
  have := c.isLt
  apply Fin.ext
  rw [lineColumn_val, lineOf_val]
  omega

theorem lineKey_lineOf (k : RowKey) (c : Column) : lineKey (lineOf k c) = k := by
  obtain ⟨rank, bank, row⟩ := k
  have := c.isLt
  have := rank.isLt
  have := bank.isLt
  simp only [lineKey, lineOf, RowKey.mk.injEq, Fin.ext_iff]
  omega

/-- Row keys of one bank position and one host row are equal (R6). -/
theorem rowKey_ext_pos {k k' : RowKey} (hp : keyPos k = keyPos k') (hr : k.row = k'.row) : k = k' := by
  obtain ⟨rank, bank, row⟩ := k
  obtain ⟨rank', bank', row'⟩ := k'
  have hv := congrArg Fin.val hp
  have := bank.isLt
  have := bank'.isLt
  simp only [keyPos_val] at hv
  simp only [RowKey.mk.injEq, Fin.ext_iff] at hr ⊢
  omega

theorem physRow_lt (k : RowKey) (p : Place) : physRow k p < 65568 := by
  cases p with
  | hostRow => have := k.row.isLt; simp only [physRow]; omega
  | spare i => have := i.isLt; simp only [physRow]; omega

/-- A physical line number spells bank position, physical row and column (R7). -/
theorem physLine_inj {l l' : LineAddr} {p p' : Place} (h : physLine l p = physLine l' p') :
    keyPos (lineKey l) = keyPos (lineKey l') ∧ physRow (lineKey l) p = physRow (lineKey l') p' ∧
      lineColumn l = lineColumn l' := by
  have := physRow_lt (lineKey l) p
  have := physRow_lt (lineKey l') p'
  have := (lineColumn l).isLt
  have := (lineColumn l').isLt
  unfold physLine at h
  refine ⟨Fin.ext ?_, ?_, Fin.ext ?_⟩ <;> omega

/-- A host row is below every spare's physical row (R7). -/
theorem physRow_hostRow_ne_spare (k k' : RowKey) (i : SpareIdx) : physRow k .hostRow ≠ physRow k' (.spare i) := by
  have := k.row.isLt
  simp only [physRow]
  omega

/-- Settles O2: quotients and remainders of a line address, with the composition of R4 as their inverse. -/
theorem lineAddressNamesPlace : Obligations.LineAddressNamesPlace :=
  ⟨fun l => ⟨lineColumn_val l, lineKey_bank_val l, lineKey_rank_val l, lineKey_row_val l⟩,
    fun _ _ => line_ext,
    fun k c => ⟨lineOf_val k c, lineKey_lineOf k c, lineColumn_lineOf k c⟩⟩

/-- Settles O3: a physical line number gives back bank position, physical row and column. -/
theorem physicalLinesApart : Obligations.PhysicalLinesApart := by
  refine ⟨fun l l' h => ?_, fun l l' i h => ?_, fun l l' i i' h => ?_⟩
  · obtain ⟨hp, hr, hc⟩ := physLine_inj h
    exact line_ext (rowKey_ext_pos hp (Fin.ext hr)) hc
  · exact physRow_hostRow_ne_spare _ _ i (physLine_inj h).2.1
  · obtain ⟨hp, hr, hc⟩ := physLine_inj h
    simp only [physRow] at hr
    exact ⟨hp, Fin.ext (by omega), hc⟩

/-! ### Routing (R10 to R13) -/

theorem homePlace_none : homePlace none = .hostRow := rfl

theorem homePlace_hostRow {r : Record} (h : r.homeSpare = none) : homePlace (some r) = .hostRow := by
  simp [homePlace, h]

theorem homePlace_spare {r : Record} {i : SpareIdx} (h : r.homeSpare = some i) : homePlace (some r) = .spare i := by
  simp [homePlace, h]

theorem readTarget_home {r : Option Record} (c : Column) (h : r.bind migrationTarget = none) :
    readTarget r c = (homePlace r, false) := by
  simp [readTarget, h]

theorem readTarget_migrating {r : Option Record} {d : SpareIdx} {k : Nat} (c : Column)
    (h : r.bind migrationTarget = some (d, k)) :
    readTarget r c = if c.val < k then (.spare d, true) else (homePlace r, false) := by
  simp [readTarget, h]

theorem writeTargets_home {s : State} {l : LineAddr} (h : (lineRecord s l).bind migrationTarget = none) :
    writeTargets s l = [homePlace (lineRecord s l)] := by
  simp [writeTargets, h]

theorem writeTargets_migrating {s : State} {l : LineAddr} {d : SpareIdx} {k : Nat}
    (h : (lineRecord s l).bind migrationTarget = some (d, k)) :
    writeTargets s l = if (lineColumn l).val < k ∨ ((lineColumn l).val = k ∧ copyInFlight s l = true)
      then [homePlace (lineRecord s l), .spare d] else [homePlace (lineRecord s l)] := by
  simp [writeTargets, h]

/-- A stage of a migration step is the check read, or one of the copy's three. -/
theorem StepStage.ne_checkRead_iff (g : StepStage) : g ≠ .checkRead ↔
    g = .copyRead ∨ (∃ found : LineContent, g = .awaitHost found) ∨ g = .copyWrite := by
  cases g <;> simp

theorem copyInFlight_iff (s : State) (l : LineAddr) : copyInFlight s l = true ↔
    ∃ st : MigStep, s.engine.step = some st ∧ st.line = l ∧ st.leftover = false ∧ st.stage ≠ .checkRead := by
  unfold copyInFlight
  cases s.engine.step with
  | none => simp
  | some st => simp [and_assoc]

/-- Settles O4: `migrationTarget` names the destination exactly when the record is MIGRATING. -/
theorem routingByRecord : Obligations.RoutingByRecord := by
  refine ⟨fun s l h => ?_, fun s l r d m hr hs hd hm => ?_, homePlace_none, fun _ => homePlace_hostRow,
    fun _ _ => homePlace_spare, fun s l => ?_⟩
  · have ht := migrationTarget_none h
    exact ⟨readTarget_home _ ht, writeTargets_home ht⟩
  · have ht := bind_migrationTarget hr hs hd hm
    rw [readTarget_migrating _ ht, writeTargets_migrating ht, hr]
    exact ⟨rfl, rfl⟩
  · simp only [copyInFlight_iff, StepStage.ne_checkRead_iff]

end Sys2Proof.Machine
end

section
/-! PROOFS. Which operation completes, and what host writes and writebacks leave (O17, O34). -/

namespace Sys2Proof.Machine

/-! ### Line orders and the order of completion (R40, R41, R147) -/

theorem physLines_waiting {o : Op} (h : o.stage = .waiting) : o.physLines = [] := by
  simp [Op.physLines, Stage.places, h]

theorem physLines_reading {o : Op} {p : Place} {via : Bool} {n : Nat} (h : o.stage = .reading p via n) :
    o.physLines = [physLine o.line p] ∧ o.stage.stamp = n := by
  simp [Op.physLines, Stage.places, Stage.stamp, h]

theorem physLines_rereading {o : Op} {p : Place} {n : Nat} (h : o.stage = .rereading p n) :
    o.physLines = [physLine o.line p] ∧ o.stage.stamp = n := by
  simp [Op.physLines, Stage.places, Stage.stamp, h]

theorem physLines_writing {o : Op} {targets : List Place} {content : LineContent} {n : Nat}
    (h : o.stage = .writing targets content n) :
    o.physLines = targets.map (physLine o.line) ∧ o.stage.stamp = n := by
  simp [Op.physLines, Stage.places, Stage.stamp, h]

/-- No operation in flight on a physical line of `o` was issued before it (R147). -/
theorem mediaReady_iff (s : State) (o : Op) : mediaReady s o = true ↔
    ∀ o' ∈ s.ops, o'.stage.stamp < o.stage.stamp → ∀ n ∈ o'.physLines, n ∉ o.physLines := by
  simp [mediaReady, Decidable.or_iff_not_imp_left]

theorem completing_iff (s : State) (l : LineAddr) (o : Op) : completing s l = some o ↔
    headOp s l = some o ∧ ∀ o' ∈ s.ops, o'.stage.stamp < o.stage.stamp → ∀ n ∈ o'.physLines, n ∉ o.physLines := by
  rw [completing, Option.filter_eq_some_iff, mediaReady_iff]

/-- An operation issued earlier on a physical line of the head holds its completion back (R147). -/
theorem completing_none_of_earlier {s : State} {l : LineAddr} {o o' : Op} {n : Nat} (ho : headOp s l = some o)
    (hm : o' ∈ s.ops) (hlt : o'.stage.stamp < o.stage.stamp) (hn' : n ∈ o'.physLines) (hn : n ∈ o.physLines) :
    completing s l = none := by
  refine Option.eq_none_iff_forall_ne_some.2 fun x hx => ?_
  obtain ⟨hh, hfree⟩ := (completing_iff s l x).1 hx
  cases ho.symm.trans hh
  exact hfree o' hm hlt n hn' hn

/-! ### Completions that do not take place (log 1) -/

/-- The four completions of host requests on a line. -/
theorem request_not_completing {s : State} {l : LineAddr} {damage : StoredLine} {c : Instr} (h : completing s l = none)
    (hc : c ∈ [.rdMediaReadComplete l damage, .wrWriteComplete l, .mwrReadHalfComplete l damage, .mwrWriteHalfComplete l]) :
    exec c s = .next s := by
  simp only [List.mem_cons, List.not_mem_nil, or_false] at hc
  rcases hc with rfl | rfl | rfl | rfl
  · simp only [exec, execRdMediaReadComplete, h]
  · simp only [exec, execWrWriteComplete, h]
  · simp only [exec, execMwrReadHalfComplete, h]
  · simp only [exec, execMwrWriteHalfComplete, h]

theorem writebackComplete_not_completing {s : State} {l : LineAddr} (h : completing s l = none)
    (hs : s.slot = some (.writeback l)) : exec .writebackComplete s = .next s := by
  simp only [exec, execWritebackComplete, hs, h]

theorem verifyReadComplete_not_completing {s : State} {l : LineAddr} (damage : StoredLine) (h : completing s l = none)
    (hs : s.slot = some (.verify l)) : exec (.verifyReadComplete damage) s = .next s := by
  simp only [exec, execVerifyReadComplete, hs, h]

theorem patrolLineReadComplete_not_completing {s : State} {l : LineAddr} (damage : StoredLine) (h : completing s l = none)
    (hs : s.slot = some (.patrol l)) : exec (.patrolLineReadComplete damage) s = .next s := by
  simp only [exec, execPatrolLineReadComplete, hs, h]

theorem stepOp_none {s : State} {st : MigStep} {k : OpKind} {f : State → LineAddr → Option Op}
    (hst : s.engine.step = some st) (hf : f s st.line = none) : stepOp s k f = none := by
  simp [stepOp, hst, hf]

/-- The three completions of a migration step. -/
theorem migStep_not_completing {s : State} {st : MigStep} {damage : StoredLine} {c : Instr}
    (h : completing s st.line = none) (hst : s.engine.step = some st)
    (hc : c ∈ [.copyReadComplete damage, .copyWriteComplete, .checkReadComplete damage]) : exec c s = .next s := by
  simp only [List.mem_cons, List.not_mem_nil, or_false] at hc
  rcases hc with rfl | rfl | rfl
  · simp only [exec, execCopyReadComplete, stepOp_none hst h]
  · simp only [exec, execCopyWriteComplete, stepOp_none hst h]
  · simp only [exec, execCheckReadComplete, stepOp_none hst h]

/-! ### Media operations issued -/

theorem issueRead_eq (l : LineAddr) (p : Place) (via : Bool) (s : State) :
    issueRead l p via s = { s with ops := stagedOps s l (.reading p via s.stamps), stamps := s.stamps + 1 } := rfl

theorem issueWrite_eq (l : LineAddr) (targets : List Place) (content : LineContent) (s : State) :
    issueWrite l targets content s =
      { s with ops := stagedOps s l (.writing targets content s.stamps), stamps := s.stamps + 1 } := rfl

theorem clearPoison_eq (l : LineAddr) (s : State) : clearPoison l s = { s with table := unpoisoned s l } := rfl

/-- The poison list has no part in routing (R10 to R13). -/
theorem writeTargets_clearPoison (l : LineAddr) (s : State) : writeTargets (clearPoison l s) l = writeTargets s l := by
  have hr : lineRecord (clearPoison l s) l =
      (lineRecord s l).map fun r => { r with poison := r.poison.filter fun c => c != lineColumn l } := by
    rw [lineRecord, clearPoison, lookup_updateRecord, if_pos rfl, lineRecord]
    exact fun _ h => h
  unfold writeTargets
  rw [hr]
  cases lineRecord s l <;> rfl

theorem performWrite_eq (l : LineAddr) (d : LineData) (s : State) :
    performWrite l d s = { s with
      table := unpoisoned s l
      ops := stagedOps s l (.writing (writeTargets s l) (.data d) s.stamps)
      stamps := s.stamps + 1 } := by
  rw [← writeTargets_clearPoison]
  rfl

/-! ### Writes of the host (R48, R50) -/

theorem hostWriteEndsColumn_none {s : State} {l : LineAddr} (h : awaitedContent s l = none) :
    hostWriteEndsColumn l s = s := by
  rw [hostWriteEndsColumn, h]

theorem awaitedContent_congr {s u : State} (h : s.engine.step = u.engine.step) (l : LineAddr) :
    awaitedContent s l = awaitedContent u l := by
  rw [awaitedContent, awaitedContent, h]

/-- The completion of a host write that no copy step waits for: media, marked-column set and answer. -/
theorem finishWrite_answered {s : State} {l : LineAddr} {o : Op} {t : Tag} (targets : List Place) (content : LineContent)
    (ho : headOp s l = some o) (ht : o.tag = some t) (ha : awaitedContent s l = none) :
    ∃ (m : Media) (marked : List Column),
      finishWrite l o targets content s =
        returned l (.wret t .done) { s with media := m, engine := { s.engine with marked := marked } } ∧
      Written s.media m l targets content ∧ MarkedFollows s l targets content marked := by
  obtain ⟨marked, he, hf⟩ := writeLine_followMarked l targets content s
  refine ⟨_, marked, ?_, writeLine_written l targets content s, hf⟩
  rw [← he]
  generalize hu : followMarked l targets content (writeLine l targets content s) = u at he
  have hau : awaitedContent u l = none := by rw [awaitedContent_congr (u := s) (by rw [he]), ha]
  have hou : headOp u l = some o := by rw [he]; exact ho
  calc finishWrite l o targets content s
      = finishRequest l o (fun t => .wret t .done) (hostWriteEndsColumn l u) := by rw [← hu]; rfl
    _ = finishRequest l o (fun t => .wret t .done) u := by rw [hostWriteEndsColumn_none hau]
    _ = returned l (.wret t .done) u := finishRequest_returned _ hou ht

/-- The completion of a WR or of an MWR's write half is `finishWrite`. -/
theorem write_complete {s : State} {l : LineAddr} {o : Op} {targets : List Place} {content : LineContent} {n : Nat}
    {c : Instr} (ho : completing s l = some o) (hs : o.stage = .writing targets content n)
    (hc : (∃ d, o.kind = .wr d ∧ c = .wrWriteComplete l) ∨ (∃ d e, o.kind = .mwr d e ∧ c = .mwrWriteHalfComplete l)) :
    exec c s = .next (finishWrite l o targets content s) := by
  rcases hc with ⟨d, hk, rfl⟩ | ⟨d, e, hk, rfl⟩
  · simp only [exec, execWrWriteComplete, ho, hk, hs]
  · simp only [exec, execMwrWriteHalfComplete, ho, hk, hs]

theorem wrIssue_eq {s : State} {l : LineAddr} {o : Op} {d : LineData} (ho : headOp s l = some o) (hk : o.kind = .wr d)
    (hs : o.stage = .waiting) : exec (.wrIssue l) s = .next (performWrite l d s) := by
  simp only [exec, execWrIssue, ho, hk, hs]

/-- Settles O17, from what the issue and the completion of a media write change and from what `completing` asks. -/
theorem hostWritePerformed : Obligations.HostWritePerformed := by
  refine ⟨fun s l o d ho hk hs => ?_, fun s l o t targets content n c hcomp ht hs hc ha => ?_, fun o => ?_, completing_iff,
    fun s l o o' n damage c ho hm hlt hn' hn hc => ?_⟩
  · rw [wrIssue_eq ho hk hs, performWrite_eq]
  · obtain ⟨m, marked, he, hw, hf⟩ := finishWrite_answered targets content (completing_head hcomp).1 ht ha
    have hx := (write_complete hcomp hs hc).trans (congrArg _ he)
    refine ⟨m, marked, hx, hw, hf, fun hn => ?_⟩
    rw [hx, hf.1 hn]
  · exact ⟨physLines_waiting, fun _ _ _ => physLines_reading, fun _ _ => physLines_rereading, fun _ _ _ => physLines_writing⟩
  · have hnone := completing_none_of_earlier ho hm hlt hn' hn
    rcases hc with hc | ⟨hs, rfl⟩ | ⟨hs, rfl⟩ | ⟨hs, rfl⟩ | ⟨st, hst, rfl, hc⟩
    · exact request_not_completing hnone hc
    · exact writebackComplete_not_completing hnone hs
    · exact verifyReadComplete_not_completing damage hnone hs
    · exact patrolLineReadComplete_not_completing damage hnone hs
    · exact migStep_not_completing hnone hst hc

/-! ### Writebacks (R108) -/

theorem writebackPerform_eq {s : State} {l : LineAddr} {o : Op} {content : LineContent}
    (hs : s.slot = some (.writeback l)) (ho : headOp s l = some o) (hk : o.kind = .writeback content)
    (hst : o.stage = .waiting) :
    exec .writebackPerform s = .next (issueWrite l (writeTargets s l) content s) := by
  simp only [exec, execWritebackPerform, hs, ho, hk, hst]

theorem writebackComplete_eq {s : State} {l : LineAddr} {o : Op} {content written : LineContent} {targets : List Place}
    {n : Nat} (hs : s.slot = some (.writeback l)) (ho : completing s l = some o) (hk : o.kind = .writeback content)
    (hst : o.stage = .writing targets written n) :
    exec .writebackComplete s =
      .next (freeSlot (leaveOrder l (followMarked l targets written (writeLine l targets written s)))) := by
  simp only [exec, execWritebackComplete, hs, ho, hk, hst]

/-- Settles O34: the performance issues the media writes; the completion is a media write with the marked-column set. -/
theorem writebackPerformed : Obligations.WritebackPerformed := by
  refine fun s l o content hs hk => ⟨fun ho hst => ?_, fun targets written n ho hst => ?_⟩
  · rw [writebackPerform_eq hs ho hk hst, issueWrite_eq]
  · obtain ⟨marked, he, hf⟩ := writeLine_followMarked l targets written s
    refine ⟨_, marked, ?_, writeLine_written l targets written s, hf⟩
    rw [writebackComplete_eq hs ho hk hst, he]
    rfl

end Sys2Proof.Machine
end

section
/-! PROOFS. What a decode hands on, and the patrol line read (O30). -/

namespace Sys2Proof.Machine

/-! ### What a decode hands on (R26, R101) -/

theorem handEvent_silent {d : Decode} (g : Origin) (s : State) (h : d.outcome = .clean ∨ d.outcome = .mark) :
    handEvent d g s = s := by
  rcases h with h | h <;> simp only [handEvent, h]

theorem handEvent_corrected {d : Decode} {c : Cell} (g : Origin) (s : State) (h : d.outcome = .corrected)
    (hc : d.cell = some c) : handEvent d g s = receiveEvent ⟨d.line, g, .correction c⟩ s := by
  simp only [handEvent, h, hc]

theorem handEvent_uncorrectable {d : Decode} (g : Origin) (s : State) (h : d.outcome = .uncorrectable) :
    handEvent d g s = receiveEvent ⟨d.line, g, .uncorrectable⟩ s := by
  simp only [handEvent, h]

theorem handWriteback_silent {d : Decode} (b : Bool) (s : State) (h : d.outcome = .clean ∨ d.outcome = .mark) :
    handWriteback d b s = s := by
  rcases h with h | h <;> simp only [handWriteback, h]

theorem handWriteback_corrected {d : Decode} (b : Bool) (s : State) (h : d.outcome = .corrected) :
    handWriteback d b s = requestWriteback d.line (.data d.data) b s := by
  simp only [handWriteback, h]

theorem handWriteback_uncorrectable {d : Decode} (b : Bool) (s : State) (h : d.outcome = .uncorrectable) :
    handWriteback d b s = requestWriteback d.line .mark b s := by
  simp only [handWriteback, h]

theorem readLine_line (s : State) (l : LineAddr) (p : Place) (damage : StoredLine) : (readLine s l p damage).line = l := rfl

/-! ### Counters and the writeback queue after an event and a request -/

/-- An event changes no counter beyond its own, but for an overflow of the table (R46, R63). -/
theorem receiveEvent_counters (ev : ErrorEvent) (s : State) :
    (receiveEvent ev s).counters = (countEvent ev s).counters ∨
      (receiveEvent ev s).counters = (countEvent ev s).counters.bump .tableOverflow := by
  unfold receiveEvent
  dsimp only
  split
  · simp
  · split
    · next h =>
      obtain ⟨_, _, -, -, rfl⟩ := createRecord_spec h
      simp
    · right
      unfold untracked
      dsimp only
      split <;> simp [count]

/-- A writeback request counts at most one superseded or dropped request (R104, R105). -/
theorem requestWriteback_counters (l : LineAddr) (c : LineContent) (b : Bool) (s : State) :
    (requestWriteback l c b s).counters = s.counters ∨
      (requestWriteback l c b s).counters = s.counters.bump .wbSuperseded ∨
      (requestWriteback l c b s).counters = s.counters.bump .wbDropped := by
  unfold requestWriteback
  (repeat' split) <;> simp [count]

/-- What a writeback request makes of the queue depends on the queue alone. -/
theorem requestWriteback_wbQueue {s u : State} (h : s.wbQueue = u.wbQueue) (l : LineAddr) (c : LineContent) (b : Bool) :
    (requestWriteback l c b s).wbQueue = (requestWriteback l c b u).wbQueue := by
  have he : wbEntry s l = wbEntry u l := by rw [wbEntry, wbEntry, h]
  unfold requestWriteback
  rw [he, h]
  (repeat' split) <;> simp [h]

/-- A patrol correction, with the request that follows, counts one patrol correction (R91). -/
theorem patrolCorrected_after {l : LineAddr} (cell : Cell) (c : LineContent) (b : Bool) (s : State) :
    (requestWriteback l c b (receiveEvent ⟨l, .patrol, .correction cell⟩ s)).counters.patrolCorrected =
      min (s.counters.patrolCorrected + 1) 4294967295 := by
  have hev : (receiveEvent ⟨l, .patrol, .correction cell⟩ s).counters.patrolCorrected =
      min (s.counters.patrolCorrected + 1) 4294967295 := by
    rcases receiveEvent_counters ⟨l, .patrol, .correction cell⟩ s with h | h <;> rw [h] <;> rfl
  rcases requestWriteback_counters l c b (receiveEvent ⟨l, .patrol, .correction cell⟩ s) with h | h | h <;>
    rw [h, ← hev] <;> rfl

/-- An uncorrectable read, with the request that follows, counts one uncorrectable (R91). -/
theorem uncorrectable_after {l : LineAddr} (g : Origin) (c : LineContent) (b : Bool) (s : State) :
    (requestWriteback l c b (receiveEvent ⟨l, g, .uncorrectable⟩ s)).counters.uncorrectable =
      min (s.counters.uncorrectable + 1) 4294967295 := by
  have hev : (receiveEvent ⟨l, g, .uncorrectable⟩ s).counters.uncorrectable =
      min (s.counters.uncorrectable + 1) 4294967295 := by
    rcases receiveEvent_counters ⟨l, g, .uncorrectable⟩ s with h | h <;> rw [h] <;> rfl
  rcases requestWriteback_counters l c b (receiveEvent ⟨l, g, .uncorrectable⟩ s) with h | h | h <;>
    rw [h, ← hev] <;> rfl

theorem wbQueue_after_event (ev : ErrorEvent) (l : LineAddr) (c : LineContent) (b : Bool) (s : State) :
    (requestWriteback l c b (receiveEvent ev s)).wbQueue = (requestWriteback l c b s).wbQueue :=
  requestWriteback_wbQueue (by simp) l c b

/-! ### The patrol line read (R128 to R130) -/

theorem nextLine_within {s : State} {c : Column} (hc : s.patrol.current = some c) (h : c.val + 1 < 128) :
    nextLine s = { s with patrol := { s.patrol with current := some ⟨c.val + 1, h⟩ } } := by
  simp only [nextLine, hc, dif_pos h, State.setPatrol]

theorem nextLine_last {s : State} {c : Column} (hc : s.patrol.current = some c) (h : c = 127) :
    nextLine s = beginRow (advanceCursor { s with patrol := { s.patrol with current := none } }) := by
  subst h
  simp only [nextLine, hc]
  rfl

theorem advanceCursor_credits (s : State) : (advanceCursor s).patrol.credits = s.patrol.credits := by
  unfold advanceCursor
  split
  · rfl
  · dsimp only
    split <;> simp [completePass]

/-- Without a credit no row patrol begins (R126). -/
theorem beginRow_no_credit {s : State} (h : s.patrol.credits = 0) : beginRow s = s := by
  rw [beginRow, h, beginRows]

theorem patrolLineReadPerform_eq {s : State} {l : LineAddr} {o : Op} (hs : s.slot = some (.patrol l))
    (ho : headOp s l = some o) (hk : o.kind = .patrol) (hst : o.stage = .waiting) :
    exec .patrolLineReadPerform s = .next (issueRead l (homePlace (lineRecord s l)) false s) := by
  simp only [exec, execPatrolLineReadPerform, hs, ho, hk, hst, and_self, if_true]

/-- The state in which the decode of a patrol line read has been handed on, the line order left and the slot freed. -/
def patrolHanded (l : LineAddr) (t s : State) : State := { t with ops := s.ops.eraseP fun o => o.line == l, slot := none }

theorem patrolLineReadComplete_eq {s : State} {l : LineAddr} {o : Op} {p : Place} {via : Bool} {n : Nat}
    (damage : StoredLine) (hs : s.slot = some (.patrol l)) (ho : completing s l = some o) (hk : o.kind = .patrol)
    (hst : o.stage = .reading p via n) :
    exec (.patrolLineReadComplete damage) s = .next (nextLine (patrolHanded l
      (handWriteback (readLine s l p damage) o.overtaken (handEvent (readLine s l p damage) .patrol s)) s)) := by
  simp only [exec, execPatrolLineReadComplete, hs, ho, hk, hst]
  simp [patrolHanded, freeSlot, leaveOrder, State.setSlot, State.setOps]

/-- The patrol goes on after a state `t` that keeps the patrol: the next line, or the end of the row (R129, R130). -/
theorem nextLine_patrolHanded {l : LineAddr} {s t : State} {c : Column} (hp : t.patrol = s.patrol)
    (hc : s.patrol.current = some c) :
    (∀ h : c.val + 1 < 128, nextLine (patrolHanded l t s) = { t with
      ops := s.ops.eraseP fun o => o.line == l
      slot := none
      patrol := { s.patrol with current := some ⟨c.val + 1, h⟩ } }) ∧
    (c = 127 → nextLine (patrolHanded l t s) = beginRow (advanceCursor { t with
      ops := s.ops.eraseP fun o => o.line == l
      slot := none
      patrol := { s.patrol with current := none } })) := by
  have hc' : (patrolHanded l t s).patrol.current = some c := by rw [← hc, ← hp]; rfl
  rw [← hp]
  exact ⟨fun h => nextLine_within hc' h, fun h => nextLine_last hc' h⟩

/-- Settles O30: the decode is handed on, then the patrol goes to the next line, or to the next row at line 127. -/
theorem patrolLineRead : Obligations.PatrolLineRead := by
  intro s l o hs hk
  refine ⟨fun ho hst => by rw [patrolLineReadPerform_eq hs ho hk hst, issueRead_eq], fun damage p via n col ho hst hcol => ?_⟩
  rw [patrolLineReadComplete_eq damage hs ho hk hst]
  generalize hd : readLine s l p damage = d
  have hl : d.line = l := by rw [← hd, readLine_line]
  refine ⟨fun hout => ?_, fun c hout hc => ?_, fun hout => ?_⟩
  · rw [handEvent_silent _ _ hout, handWriteback_silent _ _ hout]
    obtain ⟨hwithin, hlast⟩ := nextLine_patrolHanded (l := l) (t := s) rfl hcol
    refine ⟨fun h => by rw [hwithin h], fun h => by rw [hlast h], fun h hcr => ?_⟩
    rw [hlast h, beginRow_no_credit (by rw [advanceCursor_credits, ← hcr])]
  · rw [handEvent_corrected _ _ hout hc, handWriteback_corrected _ _ hout, hl]
    obtain ⟨hwithin, hlast⟩ := nextLine_patrolHanded (l := l) (s := s)
      (t := requestWriteback l (.data d.data) o.overtaken (receiveEvent ⟨l, .patrol, .correction c⟩ s)) (by simp) hcol
    refine ⟨fun h => ⟨_, rfl, ?_, ?_, hwithin h⟩, fun h => by rw [hlast h]⟩ <;> rw [hwithin h]
    · exact wbQueue_after_event _ l _ _ s
    · exact patrolCorrected_after c _ _ s
  · rw [handEvent_uncorrectable _ _ hout, handWriteback_uncorrectable _ _ hout, hl]
    obtain ⟨hwithin, hlast⟩ := nextLine_patrolHanded (l := l) (s := s)
      (t := requestWriteback l .mark o.overtaken (receiveEvent ⟨l, .patrol, .uncorrectable⟩ s)) (by simp) hcol
    refine ⟨fun h => ⟨_, rfl, ?_, ?_, hwithin h⟩, fun h => by rw [hlast h]⟩ <;> rw [hwithin h]
    · exact wbQueue_after_event _ l _ _ s
    · exact uncorrectable_after _ _ _ s

end Sys2Proof.Machine
end

section
/-! PROOFS. The copy step of a migration (O37). -/

namespace Sys2Proof.Machine

/-! ### Events on a row that is MIGRATING (R94) -/

theorem Record.score_state (p : Params) (ev : ErrorEvent) (r : Record) : (r.score p ev).state = r.state := by
  unfold Record.score
  split
  · rfl
  · unfold Record.lose
    dsimp only
    split
    · rfl
    · split <;> rfl

/-- A record that is MIGRATING is at most urged (R94). -/
theorem evaluate_migrating {r : Record} (p : Params) (u : Bool) (h : r.state = .migrating) :
    evaluate p u r = .keep ∨ evaluate p u r = .urge := by
  simp only [evaluate, h]
  split <;> simp

/-- The engine does not hear of what an event makes of a record that is MIGRATING. -/
theorem applyVerdict_engine_migrating {r : Record} {v : Verdict} (s : State) (h : r.state = .migrating)
    (hv : v = .keep ∨ v = .urge) : (applyVerdict r v s).engine = s.engine := by
  rcases hv with rfl | rfl
  · rfl
  · simp [applyVerdict, h]

/-- An event on the row of the migration in progress leaves the engine as it was. -/
theorem receiveEvent_engine_migrating {ev : ErrorEvent} {s : State} {r : Record} (hr : lineRecord s ev.line = some r)
    (hm : r.state = .migrating) : (receiveEvent ev s).engine = s.engine := by
  have hr' : lineRecord (countEvent ev s) ev.line = some r := by rw [← hr]; exact lineRecord_congr (by simp) _
  have hs (p : Params) : (r.score p ev).state = .migrating := (Record.score_state p ev r).trans hm
  unfold receiveEvent
  dsimp only
  rw [hr']
  dsimp only
  unfold applyEvent
  dsimp only
  rw [applyVerdict_engine_migrating _ (hs _) (evaluate_migrating _ _ (hs _))]
  split <;> simp

/-! ### The copy read (R153 to R155, R160) -/

theorem handMark_uncorrectable {d : Decode} (b : Bool) (s : State) (h : d.outcome = .uncorrectable) :
    handMark d b s = requestWriteback d.line .mark b s := by
  simp only [handMark, h]

theorem handMark_other {d : Decode} (b : Bool) (s : State) (h : d.outcome ≠ .uncorrectable) : handMark d b s = s := by
  unfold handMark
  split
  · exact absurd ‹_› h
  all_goals rfl

/-- A copy write carries the data of a CLEAN or CORRECTED decode (R153). -/
theorem copyContent_data {d : Decode} (h : d.outcome = .clean ∨ d.outcome = .corrected) : copyContent d = .data d.data := by
  rcases h with h | h <;> simp only [copyContent, h]

/-- A copy write carries the mark for a MARK or UNCORRECTABLE decode (R153). -/
theorem copyContent_mark {d : Decode} (h : d.outcome = .mark ∨ d.outcome = .uncorrectable) : copyContent d = .mark := by
  rcases h with h | h <;> simp only [copyContent, h]

theorem copyReadPerform_eq {s : State} {st : MigStep} {o : Op} (hst : s.engine.step = some st)
    (ho : headOp s st.line = some o) (hk : o.kind = .copyRead) (hw : o.stage = .waiting) :
    exec .copyReadPerform s = .next (issueRead st.line (homePlace (lineRecord s st.line)) false s) := by
  simp only [exec, execCopyReadPerform, stepOp_some hst ho hk, hw, if_true]

theorem copyReadComplete_eq {s : State} {st : MigStep} {o : Op} {p : Place} {via : Bool} {n : Nat} (damage : StoredLine)
    (hst : s.engine.step = some st) (ho : completing s st.line = some o) (hk : o.kind = .copyRead)
    (hg : o.stage = .reading p via n) :
    exec (.copyReadComplete damage) s = .next (afterCopyRead st (copyContent (readLine s st.line p damage))
      (leaveOrder st.line (handMark (readLine s st.line p damage) o.overtaken
        (handEvent (readLine s st.line p damage) .copy s)))) := by
  simp only [exec, execCopyReadComplete, stepOp_some hst ho hk, hg]

/-- A leftover copy read ends its step, whatever state `t` its decode was handed on to (R160). -/
theorem afterCopyRead_leftover {st : MigStep} (content : LineContent) (t : State) (hl : st.leftover = true) :
    afterCopyRead st content (leaveOrder st.line t) = { t with
      ops := t.ops.eraseP fun o => o.line == st.line
      slot := none
      engine := { t.engine with step := none } } := by
  simp only [afterCopyRead, hl, if_true]
  rfl

/-- No host write on the line: the copy write is issued (R154). -/
theorem afterCopyRead_issues {s t : State} {st : MigStep} (content : LineContent) (hl : st.leftover = false)
    (ho : t.ops = s.ops) (hn : t.stamps = s.stamps) (he : t.engine = s.engine) (hst : s.engine.step = some st)
    (hw : writeStands { s with ops := s.ops.eraseP fun o => o.line == st.line } st.line = false) :
    afterCopyRead st content (leaveOrder st.line t) = { t with
      ops := (s.ops.eraseP fun o => o.line == st.line) ++
        [⟨st.line, .copyWrite, none, .writing [.spare st.dest] content s.stamps, none⟩]
      stamps := s.stamps + 1
      engine := { s.engine with step := some { st with stage := .copyWrite } } } := by
  have hw' : writeStands (leaveOrder st.line t) st.line = false := by
    rw [← hw]
    simp only [writeStands, leaveOrder, State.setOps_ops, ho]
  have hst' : (leaveOrder st.line t).engine.step = some st := by simp [he, hst]
  rw [afterCopyRead, if_neg (by simp [hl]), if_neg (by simp [hw']), issueCopyWrite_some hst']
  simp only [leaveOrder_frame, he, hn]
  simp only [leaveOrder, State.setOps, ho]

/-! ### The copy write (R154, R160) -/

theorem copyWriteComplete_eq {s : State} {st : MigStep} {o : Op} {targets : List Place} {content : LineContent} {n : Nat}
    (hst : s.engine.step = some st) (ho : completing s st.line = some o) (hk : o.kind = .copyWrite)
    (hg : o.stage = .writing targets content n) :
    exec .copyWriteComplete s = .next (if st.leftover
      then endStep (leaveOrder st.line (writeLine st.line targets content s))
      else endColumn st.line
        (followMarked st.line targets content (leaveOrder st.line (writeLine st.line targets content s)))) := by
  simp only [exec, execCopyWriteComplete, stepOp_some hst ho hk, hg]

theorem endStep_eq (s : State) : endStep s = { s with slot := none, engine := { s.engine with step := none } } := rfl

theorem endColumn_eq (l : LineAddr) (s : State) : endColumn l s = { s with
    table := columnEnded s l, slot := none, engine := { s.engine with step := none } } := rfl

theorem followMarked_leaveOrder (l : LineAddr) (targets : List Place) (content : LineContent) (s : State) :
    followMarked l targets content (leaveOrder l s) = leaveOrder l (followMarked l targets content s) := by
  unfold followMarked
  rw [lineRecord_congr (t := s) (by simp)]
  split
  · split
    · cases content <;> rfl
    · rfl
  · rfl

/-- Settles O37: each part of a copy step, from what its completion hands on and what a column's end changes. -/
theorem copyStepPerformed : Obligations.CopyStepPerformed := by
  intro s st o hst
  refine ⟨fun ho hk hw => by rw [copyReadPerform_eq hst ho hk hw, issueRead_eq], fun damage p via n hl ho hk hg hw => ?_,
    fun damage p via n hl ho hk hg => ?_, fun targets content n hl ho hk hg => ?_,
    fun content n r g hl ho hk hg hr hm hd hmig _ => ?_⟩
  · rw [copyReadComplete_eq damage hst ho hk hg]
    generalize hdec : readLine s st.line p damage = d
    have hline : d.line = st.line := by rw [← hdec, readLine_line]
    refine ⟨fun content hc => ?_, fun r c hr hm hout hcell => ?_, fun r hr hm hout => ?_⟩
    · have hout : d.outcome = .clean ∨ d.outcome = .mark := hc.imp And.left And.left
      have hcontent : copyContent d = content := by
        rcases hc with ⟨h, rfl⟩ | ⟨h, rfl⟩
        · exact copyContent_data (.inl h)
        · exact copyContent_mark (.inl h)
      rw [handEvent_silent _ _ hout, handMark_other _ _ (by rcases hout with h | h <;> simp [h]),
        afterCopyRead_issues _ hl rfl rfl rfl hst hw, hcontent]
    · rw [handEvent_corrected _ _ hout hcell, handMark_other _ _ (by simp [hout]), copyContent_data (.inr hout), hline,
        afterCopyRead_issues _ hl (by simp) (by simp) (receiveEvent_engine_migrating hr hm) hst hw]
    · rw [handEvent_uncorrectable _ _ hout, handMark_uncorrectable _ _ hout, copyContent_mark (.inr hout), hline]
      have he := receiveEvent_engine_migrating (ev := ⟨st.line, .copy, .uncorrectable⟩) hr hm
      rw [afterCopyRead_issues (s := s) _ hl (by simp) (by simp) (by simp [he]) hst hw]
      exact ⟨_, rfl, wbQueue_after_event _ _ _ _ s, uncorrectable_after _ _ _ s, rfl⟩
  · rw [copyReadComplete_eq damage hst ho hk hg]
    generalize hdec : readLine s st.line p damage = d
    have hline : d.line = st.line := by rw [← hdec, readLine_line]
    rw [afterCopyRead_leftover _ _ hl]
    refine ⟨fun hout => ?_, fun c hout hcell => ?_, fun hout => ?_⟩
    · rw [handEvent_silent _ _ hout, handMark_other _ _ (by rcases hout with h | h <;> simp [h])]
    · rw [handEvent_corrected _ _ hout hcell, handMark_other _ _ (by simp [hout]), hline]
      simp
    · rw [handEvent_uncorrectable _ _ hout, handMark_uncorrectable _ _ hout, hline]
      simp
  · rw [copyWriteComplete_eq hst ho hk hg, if_pos hl, endStep_eq]
    exact ⟨_, rfl, writeLine_written st.line targets content s⟩
  · rw [copyWriteComplete_eq hst ho hk hg, if_neg (by simp [hl]), followMarked_leaveOrder]
    obtain ⟨marked, he, -, hf⟩ := writeLine_followMarked st.line [.spare st.dest] content s
    obtain ⟨-, hmarked⟩ := hf r st.dest g hr hm hd hmig
    rw [he, endColumn_eq]
    exact ⟨_, marked, rfl, writeLine_written st.line _ content s, hmarked (by simp)⟩

end Sys2Proof.Machine
end

section
/-! PROOFS. What POWER_ON_RESET leaves (O41). -/

namespace Sys2Proof.Machine

/-! ### Writes cut off by RESET_N (R9) -/

/-- Each bit of a torn line is the one it held or the new one. -/
theorem Media.stored_tear_bit (m : Media) (n : Nat) (v : StoredLine) (i : Nat) :
    ((m.tear n v).stored n).getLsbD i = (m.stored n).getLsbD i ∨ ((m.tear n v).stored n).getLsbD i = v.getLsbD i := by
  have hs : (m.tear n v).stored n =
      (v &&& Config.tornBits m.torn) ||| (m.stored n &&& ~~~Config.tornBits m.torn) := by
    simp [Media.tear, Media.put, Media.stored, Sparse.read_write]
  have hw : (m.stored n).getLsbD i = true → i < 576 := BitVec.lt_of_getLsbD
  rw [hs, BitVec.getLsbD_or, BitVec.getLsbD_and, BitVec.getLsbD_and, BitVec.getLsbD_not]
  cases (Config.tornBits m.torn).getLsbD i with
  | true => simp
  | false => simpa using .inl hw

/-- Lines that none of the torn writes is made to keep what they hold. -/
theorem stored_foldl_tear_ne (ws : List (Nat × StoredLine)) (m : Media) (n : Nat) (h : ∀ w ∈ ws, w.1 ≠ n) :
    (ws.foldl (fun m w => m.tear w.1 w.2) m).stored n = m.stored n := by
  induction ws generalizing m with
  | nil => rfl
  | cons w ws ih =>
    rw [List.foldl_cons, ih _ fun x hx => h x (List.mem_cons_of_mem _ hx),
      Media.stored_tear_ne _ _ _ _ (Ne.symm (h w List.mem_cons_self))]

/-- Each bit after a run of torn writes is the one held before, or one of a write to the line. -/
theorem stored_foldl_tear_bit (ws : List (Nat × StoredLine)) (m : Media) (n i : Nat) :
    ((ws.foldl (fun m w => m.tear w.1 w.2) m).stored n).getLsbD i = (m.stored n).getLsbD i ∨
      ∃ w ∈ ws, w.1 = n ∧
        ((ws.foldl (fun m w => m.tear w.1 w.2) m).stored n).getLsbD i = w.2.getLsbD i := by
  induction ws generalizing m with
  | nil => exact .inl rfl
  | cons w ws ih =>
    rw [List.foldl_cons]
    rcases ih (m.tear w.1 w.2) with h | ⟨x, hx, hn, h⟩
    · by_cases hw : w.1 = n
      · subst hw
        rw [h]
        exact (m.stored_tear_bit w.1 w.2 i).imp id fun e => ⟨w, List.mem_cons_self, rfl, e⟩
      · exact .inl (by rw [h, Media.stored_tear_ne _ _ _ _ (Ne.symm hw)])
    · exact .inr ⟨x, List.mem_cons_of_mem _ hx, hn, h⟩

/-- The writes that a reset cuts off are those of the heads whose media writes are issued (R9, R41). -/
theorem mem_writesInFlight {s : State} {w : Nat × StoredLine} : w ∈ writesInFlight s ↔
    ∃ (o : Op) (targets : List Place) (content : LineContent) (stamp : Nat), o ∈ s.ops ∧ headOp s o.line = some o ∧
      o.stage = .writing targets content stamp ∧ ∃ p ∈ targets, w = (physLine o.line p, content.stored) := by
  simp only [writesInFlight, List.mem_flatMap]
  constructor
  · rintro ⟨o, ho, hw⟩
    cases hs : o.stage with
    | writing targets content stamp =>
      simp only [hs] at hw
      split at hw
      · next hh =>
        obtain ⟨p, hp, rfl⟩ := List.mem_map.1 hw
        exact ⟨o, targets, content, stamp, ho, hh, hs, p, hp, rfl⟩
      · cases hw
    | waiting => simp only [hs, List.not_mem_nil] at hw
    | reading => simp only [hs, List.not_mem_nil] at hw
    | rereading => simp only [hs, List.not_mem_nil] at hw
  · rintro ⟨o, targets, content, stamp, ho, hh, hs, p, hp, rfl⟩
    refine ⟨o, ho, ?_⟩
    simp only [hs, hh, if_true]
    exact List.mem_map_of_mem hp

/-! ### The state after the reset -/

theorem powerOnReset_eq (powerLost asserted : Bool) (s : State) :
    exec (.powerOnReset powerLost asserted) s = .next { State.reset with
      hold := holdAfterReset asserted
      store := storeAfterReset s
      media := mediaAfterReset powerLost s
      linkOut := s.linkOut
      pending := s.pending } := rfl

theorem powerOnReset_media {s u : State} {powerLost asserted : Bool} (h : exec (.powerOnReset powerLost asserted) s = .next u) :
    u.media = mediaAfterReset powerLost s := by
  rw [powerOnReset_eq] at h
  cases h
  rfl

theorem storeAfterReset_other {s : State} {n : Fin 64} (h : ∀ p : Program, s.persist.program = some p → p.slot ≠ n) :
    (storeAfterReset s)[n] = s.store[n] := by
  unfold storeAfterReset
  split
  · next p hp => exact Vector.getElem_set_ne _ _ fun e => h p hp (Fin.ext e)
  · rfl

theorem storeAfterReset_slot {s : State} {p : Program} (h : s.persist.program = some p) :
    (storeAfterReset s)[p.slot] = .burned := by
  rw [storeAfterReset, h]
  exact Vector.getElem_set_self _

theorem stored_after_power_loss (s : State) (n : Nat) :
    (mediaAfterReset true s).stored n = Config.powerOnLine (s.media.powerCycles + 1) n := rfl

/-- RESET_N without loss of power leaves a line that no write in flight is made to (R9). -/
theorem stored_after_reset_kept {s : State} {n : Nat}
    (h : ∀ (o : Op) (targets : List Place) (content : LineContent) (stamp : Nat), o ∈ s.ops →
      o.stage = .writing targets content stamp → ∀ p ∈ targets, physLine o.line p ≠ n) :
    (mediaAfterReset false s).stored n = s.media.stored n := by
  refine stored_foldl_tear_ne _ _ _ fun w hw => ?_
  obtain ⟨o, targets, content, stamp, ho, -, hs, p, hp, rfl⟩ := mem_writesInFlight.1 hw
  exact h o targets content stamp ho hs p hp

/-- A bit that RESET_N changed is one that a write in flight was storing (R9). -/
theorem stored_after_reset_bit (s : State) (n i : Nat) :
    ((mediaAfterReset false s).stored n).getLsbD i = (s.media.stored n).getLsbD i ∨
      ∃ (o : Op) (targets : List Place) (content : LineContent) (stamp : Nat), o ∈ s.ops ∧
        headOp s o.line = some o ∧ o.stage = .writing targets content stamp ∧ (∃ p ∈ targets, physLine o.line p = n) ∧
        ((mediaAfterReset false s).stored n).getLsbD i = content.stored.getLsbD i := by
  refine (stored_foldl_tear_bit (writesInFlight s) s.media n i).imp id ?_
  rintro ⟨w, hw, hn, hb⟩
  obtain ⟨o, targets, content, stamp, ho, hh, hs, p, hp, rfl⟩ := mem_writesInFlight.1 hw
  exact ⟨o, targets, content, stamp, ho, hh, hs, ⟨p, hp, hn⟩, hb⟩

/-- The reset values of the attention enables (R193). -/
theorem reset_enables (i : Nat) (h : i < 10) : State.reset.attn.enables.getLsbD i = true := by
  exact BitVec.getLsbD_allOnes.trans (decide_eq_true h)

/-- Settles O41: the reset values by evaluation, the media by what a run of torn writes leaves. -/
theorem resetLeavesVolatileStateFresh : Obligations.ResetLeavesVolatileStateFresh := by
  refine ⟨?_, fun s powerLost asserted => ?_, fun s u asserted h n => ?_, fun s u asserted h => ?_⟩
  · exact ⟨rfl, rfl, rfl, rfl, rfl, rfl, rfl, rfl, rfl, rfl, fun _ _ => rfl, rfl, rfl, rfl, rfl, rfl, rfl, reset_enables,
      rfl, rfl, rfl⟩
  · exact ⟨storeAfterReset s, mediaAfterReset powerLost s, powerOnReset_eq powerLost asserted s,
      fun _ => storeAfterReset_other, fun _ => storeAfterReset_slot⟩
  · rw [powerOnReset_media h, stored_after_power_loss]
  · rw [powerOnReset_media h]
    refine ⟨fun n hn => ?_, fun n => stored_after_reset_kept, stored_after_reset_bit s, fun o p content stamp ho hs i => ?_⟩
    · refine stored_after_reset_kept fun o targets content stamp ho hs p hp he => hn o ho ?_
      rw [(physLines_writing hs).1, ← he]
      exact List.mem_map_of_mem hp
    · refine (stored_after_reset_bit s (physLine o.line p) i).symm.imp ?_ id
      rintro ⟨o', targets, content', stamp', ho', -, hs', -, hb⟩
      rw [ho, List.mem_singleton] at ho'
      subst ho'
      cases hs.symm.trans hs'
      exact hb

end Sys2Proof.Machine
end

section
/-! PROOFS. The word code: syndrome and parity as exclusive ORs, and what an encoded word decodes to (spec/02, R16 to R24). -/

namespace Sys2Proof.Machine

/-! ### Exclusive ORs over a list -/

theorem foldl_xor_init (l : List Nat) (f : Nat → Bool) (b : Bool) :
    l.foldl (fun acc i => Bool.xor acc (f i)) b = Bool.xor b (xorOver l f) := by
  induction l generalizing b with
  | nil => simp [xorOver]
  | cons a l ih => rw [xorOver, List.foldl_cons, List.foldl_cons, ih, ih, Bool.false_xor, Bool.xor_assoc]

@[simp] theorem xorOver_nil (f : Nat → Bool) : xorOver [] f = false := rfl

@[simp] theorem xorOver_cons (a : Nat) (l : List Nat) (f : Nat → Bool) :
    xorOver (a :: l) f = Bool.xor (f a) (xorOver l f) := by
  rw [xorOver, List.foldl_cons, foldl_xor_init, Bool.false_xor]

theorem xorOver_append (a b : List Nat) (f : Nat → Bool) :
    xorOver (a ++ b) f = Bool.xor (xorOver a f) (xorOver b f) := by
  rw [xorOver, List.foldl_append, foldl_xor_init, ← xorOver]

theorem xorOver_map (g : Nat → Nat) (l : List Nat) (f : Nat → Bool) : xorOver (l.map g) f = xorOver l fun i => f (g i) := by
  rw [xorOver, List.foldl_map, xorOver]

theorem xorOver_xor (l : List Nat) (f g : Nat → Bool) :
    xorOver l (fun i => Bool.xor (f i) (g i)) = Bool.xor (xorOver l f) (xorOver l g) := by
  induction l with
  | nil => rfl
  | cons a l ih => rw [xorOver_cons, xorOver_cons, xorOver_cons, ih, Bool.xor_assoc, Bool.xor_assoc, Bool.xor_left_comm (g a)]

theorem xorOver_congr {l : List Nat} {f g : Nat → Bool} (h : ∀ i ∈ l, f i = g i) : xorOver l f = xorOver l g := by
  induction l with
  | nil => rfl
  | cons a l ih => rw [xorOver_cons, xorOver_cons, h a List.mem_cons_self, ih fun i hi => h i (List.mem_cons_of_mem _ hi)]

theorem xorOver_perm {a b : List Nat} (h : a.Perm b) (f : Nat → Bool) : xorOver a f = xorOver b f := by
  induction h with
  | nil => rfl
  | cons x _ ih => rw [xorOver_cons, xorOver_cons, ih]
  | swap x y l => simp only [xorOver_cons, Bool.xor_left_comm]
  | trans _ _ ih₁ ih₂ => rw [ih₁, ih₂]

/-- Of a list without repeats, one index counts once. -/
theorem xorOver_single {l : List Nat} (h : l.Nodup) (p : Nat) : xorOver l (fun i => decide (p = i)) = decide (p ∈ l) := by
  induction l with
  | nil => rfl
  | cons a l ih =>
    obtain ⟨ha, hl⟩ := List.nodup_cons.1 h
    rw [xorOver_cons, ih hl]
    by_cases hp : p = a
    · subst hp
      simp [ha]
    · simp [hp]

/-! ### Syndrome and parity of any word (R20) -/

theorem foldl_syndrome_testBit (w : StoredWord) (j : Nat) (l : List Nat) (a : Nat) :
    (l.foldl (fun acc p => if w.getLsbD p then acc ^^^ p else acc) a).testBit j =
      Bool.xor (a.testBit j) (xorOver (l.filter fun p => p.testBit j) fun p => w.getLsbD p) := by
  induction l generalizing a with
  | nil => simp
  | cons p l ih =>
    rw [List.foldl_cons, ih]
    cases hp : p.testBit j <;> cases hw : w.getLsbD p <;> simp [hp, hw]

/-- Bit j of the syndrome is the exclusive OR of the bits whose position has bit j set. -/
theorem syndrome_testBit (w : StoredWord) (j : Nat) :
    (syndrome w).testBit j = xorOver ((List.range 72).filter fun p => p.testBit j) fun p => w.getLsbD p := by
  rw [syndrome, foldl_syndrome_testBit, Nat.zero_testBit, Bool.false_xor]

theorem syndrome_xor (v w : StoredWord) : syndrome (v ^^^ w) = syndrome v ^^^ syndrome w := by
  refine Nat.eq_of_testBit_eq fun j => ?_
  simp only [Nat.testBit_xor, syndrome_testBit, BitVec.getLsbD_xor, xorOver_xor]

theorem parity_xor (v w : StoredWord) : parity (v ^^^ w) = Bool.xor (parity v) (parity w) := by
  simp only [parity, BitVec.getLsbD_xor, xorOver_xor]

theorem getLsbD_twoPow_below (k : Nat) {i : Nat} (hi : i < 72) : (BitVec.twoPow 72 k).getLsbD i = decide (k = i) := by
  rw [BitVec.getLsbD_twoPow]
  by_cases h : k = i
  · simp [h, hi]
  · simp [h]

theorem getLsbD_flip {p : Nat} (hp : p < 72) (i : Nat) : (BitVec.twoPow 72 p).getLsbD i = decide (p = i) := by
  simp only [BitVec.getLsbD_twoPow, hp, decide_true, Bool.true_and]

/-- The syndrome of one damaged position is its number (R20). -/
theorem syndrome_flip {p : Nat} (hp : p < 72) : syndrome (BitVec.twoPow 72 p) = p := by
  refine Nat.eq_of_testBit_eq fun j => ?_
  simp only [syndrome_testBit, getLsbD_flip hp]
  rw [xorOver_single (List.nodup_range.filter _)]
  simp [hp]

theorem parity_flip {p : Nat} (hp : p < 72) : parity (BitVec.twoPow 72 p) = true := by
  simp only [parity, getLsbD_flip hp]
  rw [xorOver_single List.nodup_range]
  simpa using hp

/-! ### The positions of a word (R16) -/

theorem dataPos_injOn : ∀ i < 64, ∀ j < 64, dataPos i = dataPos j → i = j := by decide

theorem dataPos_ne_check : ∀ i < 64, ∀ j < 7, dataPos i ≠ 2 ^ j := by decide

theorem dataPos_pos_lt : ∀ i < 64, 0 < dataPos i ∧ dataPos i < 72 := by decide

/-- Position 0, the check positions and the data positions are the 72 positions, each once. -/
theorem positions_perm : (List.range 72).Perm (0 :: ((List.range 7).map (2 ^ ·) ++ (List.range 64).map dataPos)) := by
  decide

/-- The exclusive OR over the positions that `q` holds of, split into parity bit, check bits and data bits. -/
theorem xorOver_positions (q : Nat → Bool) (f : Nat → Bool) :
    xorOver ((List.range 72).filter q) f = Bool.xor (q 0 && f 0)
      (Bool.xor (xorOver ((List.range 7).filter fun j => q (2 ^ j)) fun j => f (2 ^ j))
        (xorOver ((List.range 64).filter fun i => q (dataPos i)) fun i => f (dataPos i))) := by
  rw [xorOver_perm (positions_perm.filter q), List.filter_cons, List.filter_append, List.filter_map, List.filter_map]
  cases q 0 <;> simp [xorOver_append, xorOver_map, Function.comp_def]

/-! ### The encoded word (R16 to R18) -/

/-- A bit of a word that sets the position `g i` for each `i` of a list that `f` holds of. -/
theorem foldl_place_getLsbD (f : Nat → Bool) (g : Nat → Nat) (l : List Nat) (w : StoredWord) (p : Nat) (hp : p < 72) :
    (l.foldl (fun w i => if f i then w ||| BitVec.twoPow 72 (g i) else w) w).getLsbD p =
      (w.getLsbD p || l.any fun i => f i && decide (g i = p)) := by
  induction l generalizing w with
  | nil => simp
  | cons a l ih =>
    rw [List.foldl_cons, ih, List.any_cons]
    cases f a
    · simp
    · rw [if_pos rfl, BitVec.getLsbD_or, getLsbD_twoPow_below _ hp, Bool.or_assoc, Bool.true_and]

theorem placeData_getLsbD (d : DataWord) {p : Nat} (hp : p < 72) :
    (placeData d).getLsbD p = (List.range 64).any fun i => d.getLsbD i && decide (dataPos i = p) := by
  rw [placeData, foldl_place_getLsbD _ _ _ _ _ hp]
  simp

theorem placeChecks_getLsbD (d : DataWord) {p : Nat} (hp : p < 72) :
    (placeChecks d).getLsbD p = (List.range 7).any fun j => checkBit d j && decide (2 ^ j = p) := by
  rw [placeChecks, foldl_place_getLsbD _ _ _ _ _ hp]
  simp

/-- Of a list with one index at `p`, the position `p` holds that index's bit. -/
theorem any_at_single {l : List Nat} {f : Nat → Bool} {g : Nat → Nat} {i : Nat} (hi : i ∈ l)
    (hg : ∀ k ∈ l, g k = g i → k = i) : (l.any fun k => f k && decide (g k = g i)) = f i := by
  rw [Bool.eq_iff_iff, List.any_eq_true]
  constructor
  · rintro ⟨k, hk, h⟩
    simp only [Bool.and_eq_true, decide_eq_true_eq] at h
    rw [← hg k hk h.2]
    exact h.1
  · exact fun h => ⟨i, hi, by simp [h]⟩

theorem any_at_none {l : List Nat} {f : Nat → Bool} {g : Nat → Nat} {p : Nat} (hg : ∀ k ∈ l, g k ≠ p) :
    (l.any fun k => f k && decide (g k = p)) = false := by
  rw [List.any_eq_false]
  intro k hk
  simp [hg k hk]

/-- The word before its overall parity bit. -/
def placedWord (d : DataWord) : StoredWord := placeData d ||| placeChecks d

theorem encodeWord_eq (d : DataWord) : encodeWord d = if parity (placedWord d) then placedWord d ||| 1 else placedWord d := rfl

theorem placedWord_dataPos (d : DataWord) {i : Nat} (hi : i < 64) : (placedWord d).getLsbD (dataPos i) = d.getLsbD i := by
  have hp := (dataPos_pos_lt i hi).2
  rw [placedWord, BitVec.getLsbD_or, placeData_getLsbD d hp, placeChecks_getLsbD d hp,
    any_at_single (List.mem_range.2 hi) fun k hk => dataPos_injOn k (List.mem_range.1 hk) i hi,
    any_at_none fun j hj => (dataPos_ne_check i hi j (List.mem_range.1 hj)).symm, Bool.or_false]

theorem placedWord_check (d : DataWord) {j : Nat} (hj : j < 7) : (placedWord d).getLsbD (2 ^ j) = checkBit d j := by
  have hp : 2 ^ j < 72 := lt_of_le_of_lt (Nat.pow_le_pow_right (by decide) (Nat.le_of_lt_succ hj)) (by decide)
  rw [placedWord, BitVec.getLsbD_or, placeData_getLsbD d hp, placeChecks_getLsbD d hp,
    any_at_none fun i hi => dataPos_ne_check i (List.mem_range.1 hi) j hj,
    any_at_single (g := fun k => 2 ^ k) (List.mem_range.2 hj) fun k _ h => Nat.pow_right_injective (le_refl 2) h,
    Bool.false_or]

theorem placedWord_zero (d : DataWord) : (placedWord d).getLsbD 0 = false := by
  rw [placedWord, BitVec.getLsbD_or, placeData_getLsbD d (by decide), placeChecks_getLsbD d (by decide),
    any_at_none fun i hi => (dataPos_pos_lt i (List.mem_range.1 hi)).1.ne', any_at_none fun j _ => (Nat.two_pow_pos j).ne',
    Bool.or_false]

/-- The overall parity bit alone distinguishes the encoded word (R18). -/
theorem encodeWord_eq_xor (d : DataWord) :
    encodeWord d = if parity (placedWord d) then placedWord d ^^^ BitVec.twoPow 72 0 else placedWord d := by
  rw [encodeWord_eq]
  split
  · refine BitVec.eq_of_getLsbD_eq fun i hi => ?_
    rw [BitVec.ofNat_eq_ofNat, BitVec.getLsbD_or, BitVec.getLsbD_xor, BitVec.getLsbD_one, getLsbD_flip (by decide)]
    by_cases h : i = 0
    · rw [h, placedWord_zero]
      rfl
    · simp [h, Ne.symm h]
  · rfl

theorem encodeWord_getLsbD (d : DataWord) {p : Nat} (hp : 0 < p) : (encodeWord d).getLsbD p = (placedWord d).getLsbD p := by
  rw [encodeWord_eq_xor]
  split
  · rw [BitVec.getLsbD_xor, getLsbD_flip (by decide), decide_eq_false hp.ne, Bool.xor_false]
  · rfl

theorem encodeWord_dataPos (d : DataWord) {i : Nat} (hi : i < 64) : (encodeWord d).getLsbD (dataPos i) = d.getLsbD i := by
  rw [encodeWord_getLsbD d (dataPos_pos_lt i hi).1, placedWord_dataPos d hi]

theorem parity_encodeWord (d : DataWord) : parity (encodeWord d) = false := by
  rw [encodeWord_eq_xor]
  split
  · next h => rw [parity_xor, h, parity_flip (by decide)]; rfl
  · next h => simpa using h

/-- The check bit at 2^j makes bit j of the syndrome zero (R17). -/
theorem placedWord_syndrome_testBit (d : DataWord) {j : Nat} (hj : j < 7) : (syndrome (placedWord d)).testBit j = false := by
  have hchecks : (List.range 7).filter (fun k => (2 ^ k).testBit j) = [j] := by
    revert j
    decide
  have hdata : xorOver ((List.range 64).filter fun i => (dataPos i).testBit j) (fun i => (placedWord d).getLsbD (dataPos i)) =
      checkBit d j :=
    xorOver_congr fun i hi => placedWord_dataPos d (List.mem_range.1 (List.mem_filter.1 hi).1)
  rw [syndrome_testBit, xorOver_positions, hchecks, hdata, xorOver_cons, xorOver_nil, placedWord_check d hj]
  simp

theorem syndrome_testBit_high (w : StoredWord) {j : Nat} (hj : 7 ≤ j) : (syndrome w).testBit j = false := by
  rw [syndrome_testBit, List.filter_eq_nil_iff.2]
  · rfl
  · intro p hp
    have : p < 72 := List.mem_range.1 hp
    have : (2 : Nat) ^ 7 ≤ 2 ^ j := Nat.pow_le_pow_right (by decide) hj
    rw [Nat.testBit_lt_two_pow (by omega)]
    decide

theorem syndrome_encodeWord (d : DataWord) : syndrome (encodeWord d) = 0 := by
  have hplaced : syndrome (placedWord d) = 0 := by
    refine Nat.eq_of_testBit_eq fun j => ?_
    rw [Nat.zero_testBit]
    rcases Nat.lt_or_ge j 7 with hj | hj
    · exact placedWord_syndrome_testBit d hj
    · exact syndrome_testBit_high _ hj
  rw [encodeWord_eq_xor]
  split
  · rw [syndrome_xor, hplaced, syndrome_flip (by decide), Nat.xor_self]
  · exact hplaced

theorem dataOf_getLsbD (w : StoredWord) {i : Nat} (hi : i < 64) : (dataOf w).getLsbD i = w.getLsbD (dataPos i) :=
  ofBits_get 64 _ i hi

theorem dataOf_encodeWord (d : DataWord) : dataOf (encodeWord d) = d :=
  BitVec.eq_of_getLsbD_eq fun _ hi => by rw [dataOf_getLsbD _ hi, encodeWord_dataPos d hi]

/-! ### What an encoded word decodes to (R21) -/

theorem wordOutcome_encodeWord (d : DataWord) : wordOutcome (encodeWord d) = .clean := by
  simp [wordOutcome, parity_encodeWord, syndrome_encodeWord]

theorem delivered_clean {w : StoredWord} (h : wordOutcome w = .clean) : delivered w = dataOf w := by
  unfold delivered
  rw [h]

theorem delivered_corrected {w : StoredWord} {p : Fin 72} (h : wordOutcome w = .corrected p) :
    delivered w = dataOf (w ^^^ BitVec.twoPow 72 p.val) := by
  unfold delivered
  rw [h]

theorem delivered_uncorrectable {w : StoredWord} (h : wordOutcome w = .uncorrectable) : delivered w = dataOf w := by
  unfold delivered
  rw [h]

theorem delivered_encodeWord (d : DataWord) : delivered (encodeWord d) = d :=
  (delivered_clean (wordOutcome_encodeWord d)).trans (dataOf_encodeWord d)

theorem wordOutcome_encodeWord_flip (d : DataWord) (p : Fin 72) :
    wordOutcome (encodeWord d ^^^ BitVec.twoPow 72 p.val) = .corrected p := by
  have hp : parity (encodeWord d ^^^ BitVec.twoPow 72 p.val) = true := by
    rw [parity_xor, parity_encodeWord, parity_flip p.isLt]; rfl
  have hs : syndrome (encodeWord d ^^^ BitVec.twoPow 72 p.val) = p.val := by
    rw [syndrome_xor, syndrome_encodeWord, syndrome_flip p.isLt, Nat.zero_xor]
  simp [wordOutcome, hp, hs]

theorem delivered_encodeWord_flip (d : DataWord) (p : Fin 72) :
    delivered (encodeWord d ^^^ BitVec.twoPow 72 p.val) = d := by
  rw [delivered_corrected (wordOutcome_encodeWord_flip d p), BitVec.xor_assoc, BitVec.xor_self, BitVec.xor_zero, dataOf_encodeWord]

/-! ### The mark pattern (R23, R24) -/

theorem wordOutcome_of_showsMark {w : StoredWord} (h : showsMark w = true) : wordOutcome w = .uncorrectable := by
  simp only [showsMark, Bool.and_eq_true, beq_iff_eq, Bool.not_eq_true'] at h
  simp [wordOutcome, h.1, h.2]

set_option maxRecDepth 8000 in
theorem showsMark_markWord : showsMark markWord = true := by decide

set_option maxRecDepth 8000 in
theorem dataOf_markWord : dataOf markWord = 0 := by decide

theorem delivered_markWord : delivered markWord = 0 :=
  (delivered_uncorrectable (wordOutcome_of_showsMark showsMark_markWord)).trans dataOf_markWord

end Sys2Proof.Machine
end

section
/-! PROOFS. The words of a line, line outcomes, and media reads of what was written (spec/02, R19 to R28; O6). -/

namespace Sys2Proof.Machine

/-! ### Words joined into a line (R2) -/

/-- A bit of words of `k` bits joined into `W` bits, word `w` from bit `k * w` on. -/
theorem foldl_join_getLsbD {k W : Nat} (f : Nat → BitVec k) (l : List Nat) (a : BitVec W) (i : Nat) (hi : i < W) :
    (l.foldl (fun acc w => acc ||| ((f w).setWidth W <<< (k * w))) a).getLsbD i =
      (a.getLsbD i || l.any fun w => decide (k * w ≤ i) && (f w).getLsbD (i - k * w)) := by
  induction l generalizing a with
  | nil => simp
  | cons w l ih =>
    have hw : ((f w).setWidth W <<< (k * w)).getLsbD i = (decide (k * w ≤ i) && (f w).getLsbD (i - k * w)) := by
      rw [BitVec.getLsbD_shiftLeft, BitVec.getLsbD_setWidth]
      by_cases h : k * w ≤ i
      · simp [hi, h, Nat.not_lt.2 h, Nat.lt_of_le_of_lt (Nat.sub_le i (k * w)) hi]
      · simp [h, Nat.lt_of_not_le h]
    rw [List.foldl_cons, ih, BitVec.getLsbD_or, hw, List.any_cons, Bool.or_assoc]

/-- The word that a bit stands in gives the bit; every other word leaves it zero. -/
theorem any_join_getLsbD {k n : Nat} (f : Nat → BitVec k) {w q : Nat} (hw : w < n) (hq : q < k) :
    ((List.range n).any fun v => decide (k * v ≤ k * w + q) && (f v).getLsbD (k * w + q - k * v)) = (f w).getLsbD q := by
  rw [Bool.eq_iff_iff, List.any_eq_true]
  constructor
  · rintro ⟨v, -, h⟩
    simp only [Bool.and_eq_true, decide_eq_true_eq] at h
    obtain ⟨hle, hbit⟩ := h
    have hlt := BitVec.lt_of_getLsbD hbit
    have hvw : v = w := by
      have h₁ : v < w + 1 := Nat.lt_of_mul_lt_mul_left (a := k) (by rw [Nat.mul_add]; omega)
      have h₂ : w < v + 1 := Nat.lt_of_mul_lt_mul_left (a := k) (by rw [Nat.mul_add]; omega)
      omega
    subst hvw
    rwa [Nat.add_sub_cancel_left] at hbit
  · intro h
    exact ⟨w, List.mem_range.2 hw, by simp [h]⟩

theorem joinData_getLsbD (f : Nat → DataWord) {w i : Nat} (hw : w < 8) (hi : i < 64) :
    (joinData f).getLsbD (64 * w + i) = (f w).getLsbD i := by
  rw [joinData, foldl_join_getLsbD f _ _ _ (by omega), any_join_getLsbD f hw hi]
  simp

theorem joinStored_getLsbD (f : Nat → StoredWord) {w q : Nat} (hw : w < 8) (hq : q < 72) :
    (joinStored f).getLsbD (72 * w + q) = (f w).getLsbD q := by
  rw [joinStored, foldl_join_getLsbD f _ _ _ (by omega), any_join_getLsbD f hw hq]
  simp

theorem dataWord_getLsbD (d : LineData) (w : Nat) {i : Nat} (hi : i < 64) :
    (dataWord d w).getLsbD i = d.getLsbD (64 * w + i) := by
  simp [dataWord, hi]

theorem storedWord_getLsbD (bits : StoredLine) (w : Nat) {q : Nat} (hq : q < 72) :
    (storedWord bits w).getLsbD q = bits.getLsbD (72 * w + q) := by
  simp [storedWord, hq]

/-- Byte j of word w is data byte 8w + j (R2). -/
theorem dataWord_byte (d : LineData) (w : Nat) {j : Nat} (hj : j < 8) :
    (dataWord d w).extractLsb' (8 * j) 8 = d.extractLsb' (8 * (8 * w + j)) 8 := by
  refine BitVec.eq_of_getLsbD_eq fun i hi => ?_
  rw [BitVec.getLsbD_extractLsb', BitVec.getLsbD_extractLsb', dataWord_getLsbD d w (by omega),
    show 64 * w + (8 * j + i) = 8 * (8 * w + j) + i by omega]

theorem dataWord_joinData (f : Nat → DataWord) {w : Nat} (hw : w < 8) : dataWord (joinData f) w = f w :=
  BitVec.eq_of_getLsbD_eq fun i hi => by rw [dataWord_getLsbD _ w hi, joinData_getLsbD f hw hi]

theorem storedWord_joinStored (f : Nat → StoredWord) {w : Nat} (hw : w < 8) : storedWord (joinStored f) w = f w :=
  BitVec.eq_of_getLsbD_eq fun q hq => by rw [storedWord_getLsbD _ w hq, joinStored_getLsbD f hw hq]

/-- A line's data is its eight words. -/
theorem lineData_ext {a b : LineData} (h : ∀ w < 8, dataWord a w = dataWord b w) : a = b := by
  refine BitVec.eq_of_getLsbD_eq fun i hi => ?_
  have hw := congrArg (fun x => x.getLsbD (i % 64)) (h (i / 64) (by omega))
  simp only [dataWord_getLsbD _ _ (Nat.mod_lt i (by decide : 64 > 0)), Nat.div_add_mod] at hw
  exact hw

theorem storedWord_encodeLine (d : LineData) {w : Nat} (hw : w < 8) :
    storedWord (encodeLine d) w = encodeWord (dataWord d w) :=
  storedWord_joinStored _ hw

theorem storedWord_markLine {w : Nat} (hw : w < 8) : storedWord markLine w = markWord := storedWord_joinStored _ hw

theorem storedWord_xor (a b : StoredLine) (w : Nat) : storedWord (a ^^^ b) w = storedWord a w ^^^ storedWord b w := by
  refine BitVec.eq_of_getLsbD_eq fun q hq => ?_
  rw [BitVec.getLsbD_xor, storedWord_getLsbD _ w hq, storedWord_getLsbD _ w hq, storedWord_getLsbD _ w hq, BitVec.getLsbD_xor]

/-- A bit of a line is a bit of one of its words. -/
theorem storedWord_flip (w v : Fin 8) (q : Fin 72) : storedWord (BitVec.twoPow 576 (72 * w.val + q.val)) v.val =
    if v = w then BitVec.twoPow 72 q.val else 0 := by
  refine BitVec.eq_of_getLsbD_eq fun i hi => ?_
  rw [storedWord_getLsbD _ _ hi, BitVec.getLsbD_twoPow]
  have := q.isLt
  have hb : 72 * w.val + q.val < 576 := by omega
  have hiff : 72 * w.val + q.val = 72 * v.val + i ↔ v = w ∧ q.val = i := by
    rw [Fin.ext_iff]
    omega
  simp only [hb, decide_true, Bool.true_and, hiff]
  by_cases hv : v = w
  · simp [hv, getLsbD_flip q.isLt]
  · simp [hv]

/-! ### Line outcomes (R25, R27) -/

theorem words_all (bits : StoredLine) (f : StoredWord → Bool) :
    ((List.range 8).map (storedWord bits)).all f = true ↔ ∀ w : Fin 8, f (storedWord bits w.val) = true := by
  simp [Fin.forall_iff]

theorem words_any (bits : StoredLine) (f : StoredWord → Bool) :
    ((List.range 8).map (storedWord bits)).any f = true ↔ ∃ w : Fin 8, f (storedWord bits w.val) = true := by
  simp [Fin.exists_iff]

theorem WordOutcome.isUncorrectable_iff (o : WordOutcome) : o.isUncorrectable = true ↔ o = .uncorrectable := by
  cases o <;> simp [WordOutcome.isUncorrectable]

theorem lineOutcome_mark {bits : StoredLine} (h : ∀ w : Fin 8, showsMark (storedWord bits w.val) = true) :
    lineOutcome bits = .mark :=
  if_pos ((words_all bits showsMark).2 h)

/-- The outcome of a line without an UNCORRECTABLE word: CORRECTED when a word is, CLEAN otherwise. -/
theorem lineOutcome_of_correctable {bits : StoredLine}
    (h : ∀ w : Fin 8, wordOutcome (storedWord bits w.val) ≠ .uncorrectable) :
    lineOutcome bits = if ∃ w : Fin 8, (wordOutcome (storedWord bits w.val)).position?.isSome = true
      then .corrected else .clean := by
  have hmark : ¬ ((List.range 8).map (storedWord bits)).all showsMark = true := fun hall =>
    h 0 (wordOutcome_of_showsMark ((words_all bits showsMark).1 hall 0))
  have hun : ¬ ((List.range 8).map (storedWord bits)).any (fun w => (wordOutcome w).isUncorrectable) = true := by
    rw [words_any]
    rintro ⟨w, hw⟩
    exact h w ((WordOutcome.isUncorrectable_iff _).1 hw)
  unfold lineOutcome
  dsimp only
  rw [if_neg hmark, if_neg hun]
  simp only [words_any]

theorem lineOutcome_clean {bits : StoredLine} (h : ∀ w : Fin 8, wordOutcome (storedWord bits w.val) = .clean) :
    lineOutcome bits = .clean := by
  rw [lineOutcome_of_correctable fun w => by simp [h w], if_neg]
  rintro ⟨w, hw⟩
  simp [h w, WordOutcome.position?] at hw

/-- A line with one CORRECTED word, the others CLEAN. -/
theorem lineOutcome_corrected {bits : StoredLine} {w : Fin 8} {q : Fin 72}
    (h : ∀ v : Fin 8, wordOutcome (storedWord bits v.val) = if v = w then .corrected q else .clean) :
    lineOutcome bits = .corrected := by
  rw [lineOutcome_of_correctable, if_pos ⟨w, by simp [h, WordOutcome.position?]⟩]
  intro v
  rw [h]
  split <;> simp

theorem findSome?_single {α β : Type} {l : List α} {f : α → Option β} {a : α} {b : β} (ha : a ∈ l) (hf : f a = some b)
    (ho : ∀ x ∈ l, x ≠ a → f x = none) : l.findSome? f = some b := by
  induction l with
  | nil => cases ha
  | cons x l ih =>
    rw [List.findSome?_cons]
    by_cases hx : x = a
    · rw [hx, hf]
    · rw [ho x List.mem_cons_self hx]
      exact ih ((List.mem_cons.1 ha).resolve_left (Ne.symm hx)) fun y hy => ho y (List.mem_cons_of_mem _ hy)

theorem firstCorrected_single {bits : StoredLine} {w : Fin 8} {q : Fin 72} (c : Column)
    (h : ∀ v : Fin 8, wordOutcome (storedWord bits v.val) = if v = w then .corrected q else .clean) :
    firstCorrected c bits = some ⟨c, w, q⟩ := by
  refine findSome?_single (a := w) (List.mem_finRange w) ?_ fun v _ hv => ?_
  · rw [h, if_pos rfl]
    rfl
  · rw [h, if_neg hv]
    rfl

/-! ### Decodes (R28) -/

theorem decodeLine_data_eq (l : LineAddr) (c : Column) (p : Place) (bits : StoredLine) :
    (decodeLine l c p bits).data = joinData fun w => delivered (storedWord bits w) := rfl

theorem dataWord_decodeLine (l : LineAddr) (c : Column) (p : Place) (bits : StoredLine) {w : Nat} (hw : w < 8) :
    dataWord (decodeLine l c p bits).data w = delivered (storedWord bits w) := by
  rw [decodeLine_data_eq, dataWord_joinData _ hw]

theorem decodeLine_data {l : LineAddr} {c : Column} {p : Place} {bits : StoredLine} {d : LineData}
    (h : ∀ w : Fin 8, delivered (storedWord bits w.val) = dataWord d w.val) : (decodeLine l c p bits).data = d :=
  lineData_ext fun w hw => by rw [dataWord_decodeLine l c p bits hw, h ⟨w, hw⟩]

theorem decodeLine_ext {l : LineAddr} {c : Column} {p : Place} {bits : StoredLine} {out : LineOutcome} {d : LineData}
    {cell : Option Cell} (ho : lineOutcome bits = out) (hd : ∀ w : Fin 8, delivered (storedWord bits w.val) = dataWord d w.val)
    (hc : (if out = .corrected then firstCorrected c bits else none) = cell) :
    decodeLine l c p bits = ⟨l, p, out, d, cell⟩ := by
  rw [← decodeLine_data (l := l) (c := c) (p := p) hd, ← hc, ← ho]
  rfl

theorem decodeLine_encodeLine (l : LineAddr) (c : Column) (p : Place) (d : LineData) :
    decodeLine l c p (encodeLine d) = ⟨l, p, .clean, d, none⟩ :=
  decodeLine_ext (lineOutcome_clean fun w => by rw [storedWord_encodeLine d w.isLt, wordOutcome_encodeWord])
    (fun w => by rw [storedWord_encodeLine d w.isLt, delivered_encodeWord]) rfl

/-- The words of an encoded line with one bit flipped. -/
theorem storedWord_encodeLine_flip (d : LineData) (w v : Fin 8) (q : Fin 72) :
    storedWord (encodeLine d ^^^ BitVec.twoPow 576 (72 * w.val + q.val)) v.val =
      if v = w then encodeWord (dataWord d v.val) ^^^ BitVec.twoPow 72 q.val else encodeWord (dataWord d v.val) := by
  rw [storedWord_xor, storedWord_encodeLine d v.isLt, storedWord_flip]
  split
  · rfl
  · exact BitVec.xor_zero

theorem decodeLine_encodeLine_flip (l : LineAddr) (c : Column) (p : Place) (d : LineData) (w : Fin 8) (q : Fin 72) :
    decodeLine l c p (encodeLine d ^^^ BitVec.twoPow 576 (72 * w.val + q.val)) =
      ⟨l, p, .corrected, d, some ⟨c, w, q⟩⟩ := by
  have ho (v : Fin 8) : wordOutcome (storedWord (encodeLine d ^^^ BitVec.twoPow 576 (72 * w.val + q.val)) v.val) =
      if v = w then .corrected q else .clean := by
    rw [storedWord_encodeLine_flip]
    split
    · exact wordOutcome_encodeWord_flip _ q
    · exact wordOutcome_encodeWord _
  refine decodeLine_ext (lineOutcome_corrected ho) (fun v => ?_) (firstCorrected_single c ho)
  rw [storedWord_encodeLine_flip]
  split
  · exact delivered_encodeWord_flip _ q
  · exact delivered_encodeWord _

theorem decodeLine_markLine (l : LineAddr) (c : Column) (p : Place) :
    decodeLine l c p markLine = ⟨l, p, .mark, 0, none⟩ := by
  refine decodeLine_ext (lineOutcome_mark fun w => ?_) (fun w => ?_) rfl
  · rw [storedWord_markLine w.isLt, showsMark_markWord]
  · rw [storedWord_markLine w.isLt, delivered_markWord]
    simp [dataWord]

/-! ### Media reads of what was written -/

theorem readLine_eq (s : State) (l : LineAddr) (p : Place) (damage : StoredLine) :
    readLine s l p damage = decodeLine l (lineColumn l) p (s.media.stored (physLine l p) ^^^ damage) := rfl

/-- An undamaged read of a target of a write decodes what the write stored. -/
theorem readLine_written {m₀ : Media} {u : State} {l : LineAddr} {targets : List Place} {content : LineContent} {p : Place}
    (h : Written m₀ u.media l targets content) (hp : p ∈ targets) :
    readLine u l p 0 = decodeLine l (lineColumn l) p content.stored := by
  rw [readLine_eq, h.1 p hp]
  congr 1
  exact BitVec.xor_zero

/-- Settles O6: word by word, from the decode of an encoded word with and without a flipped bit. -/
theorem lineDecodeInvertsEncode : Obligations.LineDecodeInvertsEncode := by
  refine ⟨fun d l c p => ⟨decodeLine_encodeLine l c p d, decodeLine_encodeLine_flip l c p d⟩,
    ⟨fun d w i _ hi => dataWord_getLsbD d w hi, fun d w j _ hj => dataWord_byte d w hj,
      fun bits w q _ hq => storedWord_getLsbD bits w hq, fun d w hw => storedWord_encodeLine d hw,
      fun l c p bits w hw => dataWord_decodeLine l c p bits hw⟩,
    readLine_eq, fun _ => rfl, rfl, fun s u l targets content hw p hp => ⟨fun d hc => ?_, fun hc => ?_⟩⟩
  · rw [readLine_written hw hp, hc]
    exact decodeLine_encodeLine l _ p d
  · rw [readLine_written hw hp, hc]
    exact decodeLine_markLine l _ p

end Sys2Proof.Machine
end

section
/-! PROOFS. What the word decoder makes of any damage to an encoded word (spec/02, R16 to R22; O5). -/

namespace Sys2Proof.Machine

/-! ### The data positions (R16) -/

theorem dataPos_strictMono : StrictMono dataPos :=
  strictMono_nat_of_lt_succ fun i => by
    unfold dataPos
    split_ifs <;> omega

/-- A position of a word is the parity bit's, a check bit's or a data bit's. -/
theorem position_cases {q : Nat} (hq : q < 72) : q = 0 ∨ (∃ j < 7, 2 ^ j = q) ∨ ∃ i < 64, dataPos i = q := by
  simpa using positions_perm.mem_iff.1 (List.mem_range.2 hq)

theorem dataPos_ne_two_pow {i : Nat} (hi : i < 64) (j : Nat) : dataPos i ≠ 2 ^ j := by
  rcases Nat.lt_or_ge j 7 with hj | hj
  · exact dataPos_ne_check i hi j hj
  · have hlt : dataPos i < 72 := (dataPos_pos_lt i hi).2
    have hge : 2 ^ 7 ≤ 2 ^ j := Nat.pow_le_pow_right (by decide) hj
    omega

theorem exists_dataPos_iff (q : Nat) : (∃ i : Nat, i < 64 ∧ dataPos i = q) ↔ 1 ≤ q ∧ q ≤ 71 ∧ ∀ j : Nat, q ≠ 2 ^ j := by
  constructor
  · rintro ⟨i, hi, rfl⟩
    obtain ⟨hpos, hlt⟩ := dataPos_pos_lt i hi
    exact ⟨hpos, Nat.le_of_lt_succ hlt, dataPos_ne_two_pow hi⟩
  · rintro ⟨hpos, hle, hpow⟩
    rcases position_cases (Nat.lt_succ_of_le hle) with rfl | ⟨j, -, rfl⟩ | hdata
    · cases hpos
    · exact absurd rfl (hpow j)
    · exact hdata

theorem dataOf_xor (v w : StoredWord) : dataOf (v ^^^ w) = dataOf v ^^^ dataOf w :=
  BitVec.eq_of_getLsbD_eq fun i hi => by
    rw [BitVec.getLsbD_xor, dataOf_getLsbD _ hi, dataOf_getLsbD _ hi, dataOf_getLsbD _ hi, BitVec.getLsbD_xor]

/-! ### The rows of the outcome table, for any word (R21) -/

theorem wordOutcome_odd {w : StoredWord} (hp : parity w = true) (hs : syndrome w < 72) :
    wordOutcome w = .corrected ⟨syndrome w, hs⟩ := by
  rw [wordOutcome, if_pos hp, dif_pos hs]

theorem wordOutcome_odd_beyond {w : StoredWord} (hp : parity w = true) (hs : 72 ≤ syndrome w) :
    wordOutcome w = .uncorrectable := by
  rw [wordOutcome, if_pos hp, dif_neg (Nat.not_lt.2 hs)]

theorem wordOutcome_even {w : StoredWord} (hp : parity w = false) :
    wordOutcome w = if syndrome w = 0 then .clean else .uncorrectable := by
  rw [wordOutcome, hp, if_neg Bool.false_ne_true]

/-! ### Damage to an encoded word (R22)

The syndrome and the parity of an encoded word are zero, so those of the damaged word are the damage's own. -/

theorem syndrome_damaged (d : DataWord) (e : StoredWord) : syndrome (encodeWord d ^^^ e) = syndrome e := by
  rw [syndrome_xor, syndrome_encodeWord, Nat.zero_xor]

theorem parity_damaged (d : DataWord) (e : StoredWord) : parity (encodeWord d ^^^ e) = parity e := by
  rw [parity_xor, parity_encodeWord, Bool.false_xor]

theorem wordOutcome_odd_damage (d : DataWord) {e : StoredWord} (hp : parity e = true) (hs : syndrome e < 72) :
    wordOutcome (encodeWord d ^^^ e) = .corrected ⟨syndrome e, hs⟩ := by
  simp only [wordOutcome_odd ((parity_damaged d e).trans hp) ((syndrome_damaged d e).trans_lt hs), syndrome_damaged]

/-- An odd damage is delivered with the position of its syndrome flipped besides: a miscorrection unless it is that position. -/
theorem delivered_odd_damage (d : DataWord) {e : StoredWord} (hp : parity e = true) (hs : syndrome e < 72) :
    delivered (encodeWord d ^^^ e) = d ^^^ dataOf (e ^^^ BitVec.twoPow 72 (syndrome e)) := by
  rw [delivered_corrected (wordOutcome_odd_damage d hp hs), BitVec.xor_assoc, dataOf_xor, dataOf_encodeWord]

theorem wordOutcome_odd_damage_beyond (d : DataWord) {e : StoredWord} (hp : parity e = true) (hs : 72 ≤ syndrome e) :
    wordOutcome (encodeWord d ^^^ e) = .uncorrectable :=
  wordOutcome_odd_beyond ((parity_damaged d e).trans hp) (hs.trans_eq (syndrome_damaged d e).symm)

theorem wordOutcome_even_damage (d : DataWord) {e : StoredWord} (hp : parity e = false) :
    wordOutcome (encodeWord d ^^^ e) = if syndrome e = 0 then .clean else .uncorrectable := by
  rw [wordOutcome_even ((parity_damaged d e).trans hp), syndrome_damaged]

theorem wordOutcome_two_flips (d : DataWord) {p q : Fin 72} (h : p ≠ q) :
    wordOutcome (encodeWord d ^^^ (BitVec.twoPow 72 p.val ^^^ BitVec.twoPow 72 q.val)) = .uncorrectable := by
  have hp : parity (BitVec.twoPow 72 p.val ^^^ BitVec.twoPow 72 q.val) = false := by
    rw [parity_xor, parity_flip p.isLt, parity_flip q.isLt, Bool.xor_self]
  have hs : syndrome (BitVec.twoPow 72 p.val ^^^ BitVec.twoPow 72 q.val) ≠ 0 := by
    rw [syndrome_xor, syndrome_flip p.isLt, syndrome_flip q.isLt, Nat.xor_ne_zero_iff]
    exact Fin.val_ne_of_ne h
  rw [wordOutcome_even_damage d hp, if_neg hs]

/-- A damage of syndrome and parity zero is a code word itself: it goes unnoticed and is delivered. -/
theorem delivered_silent_damage (d : DataWord) {e : StoredWord} (hp : parity e = false) (hs : syndrome e = 0) :
    delivered (encodeWord d ^^^ e) = d ^^^ dataOf e := by
  rw [delivered_clean ((wordOutcome_even_damage d hp).trans (if_pos hs)), dataOf_xor, dataOf_encodeWord]

/-- Settles O5: the damage's own syndrome and parity choose the row of R21. -/
theorem wordCodeClassifiesDamage : Obligations.WordCodeClassifiesDamage :=
  ⟨⟨fun _ _ hij _ => dataPos_strictMono hij, exists_dataPos_iff, fun w _ hi => dataOf_getLsbD w hi,
      fun p => ⟨syndrome_flip p.isLt, parity_flip p.isLt⟩, fun v w => ⟨syndrome_xor v w, parity_xor v w⟩⟩,
    fun d => ⟨fun _ hi => encodeWord_dataPos d hi, syndrome_encodeWord d, parity_encodeWord d, wordOutcome_encodeWord d,
      delivered_encodeWord d⟩,
    fun d p => ⟨wordOutcome_encodeWord_flip d p, delivered_encodeWord_flip d p⟩,
    fun d _ _ h => wordOutcome_two_flips d h,
    fun d _ hs hp => ⟨wordOutcome_odd_damage d hp hs, delivered_odd_damage d hp hs⟩,
    fun d _ hp hs => wordOutcome_odd_damage_beyond d hp hs,
    fun d _ hp hs => (wordOutcome_even_damage d hp).trans (if_neg hs),
    fun d _ hp hs => ⟨(wordOutcome_even_damage d hp).trans (if_pos hs), delivered_silent_damage d hp hs⟩⟩

end Sys2Proof.Machine
end

section
/-! PROOFS. The line outcome from its eight word outcomes, the reported cell, and the damaged mark (spec/02, R23 to R27; O7, O8). -/

namespace Sys2Proof.Machine

/-! ### Word outcomes -/

theorem showsMark_iff (w : StoredWord) : showsMark w = true ↔ syndrome w = 127 ∧ parity w = false := by
  simp [showsMark]

theorem WordOutcome.position?_eq_some {o : WordOutcome} {q : Fin 72} : o.position? = some q ↔ o = .corrected q := by
  cases o <;> simp [WordOutcome.position?]

theorem WordOutcome.clean_of_position?_none {o : WordOutcome} (hu : o ≠ .uncorrectable) (hp : o.position? = none) :
    o = .clean := by
  cases o with
  | clean => rfl
  | corrected q => cases hp
  | uncorrectable => exact absurd rfl hu

/-! ### The line outcome (R25)

With `lineOutcome_of_correctable` the next lemma gives the outcome of every line. -/

/-- The outcome of a line with an UNCORRECTABLE word: MARK when every word shows the mark, UNCORRECTABLE otherwise. -/
theorem lineOutcome_of_uncorrectable {bits : StoredLine} {w : Fin 8}
    (h : wordOutcome (storedWord bits w.val) = .uncorrectable) :
    lineOutcome bits = if ∀ v : Fin 8, showsMark (storedWord bits v.val) = true then .mark else .uncorrectable := by
  have hun : ((List.range 8).map (storedWord bits)).any (fun w => (wordOutcome w).isUncorrectable) = true :=
    (words_any bits _).2 ⟨w, (WordOutcome.isUncorrectable_iff _).2 h⟩
  unfold lineOutcome
  dsimp only
  rw [if_pos hun]
  simp only [words_all]

theorem lineOutcome_eq_mark_iff (bits : StoredLine) :
    lineOutcome bits = .mark ↔ ∀ w : Fin 8, showsMark (storedWord bits w.val) = true := by
  refine ⟨fun h => ?_, lineOutcome_mark⟩
  by_cases hun : ∃ w : Fin 8, wordOutcome (storedWord bits w.val) = .uncorrectable
  · obtain ⟨w, hw⟩ := hun
    rw [lineOutcome_of_uncorrectable hw] at h
    split at h
    · assumption
    · cases h
  · rw [lineOutcome_of_correctable (not_exists.1 hun)] at h
    split at h <;> cases h

/-- A line that is CORRECTED or CLEAN has no UNCORRECTABLE word. -/
theorem correctable_of_lineOutcome {bits : StoredLine} (h : lineOutcome bits = .corrected ∨ lineOutcome bits = .clean)
    (w : Fin 8) : wordOutcome (storedWord bits w.val) ≠ .uncorrectable := by
  intro hw
  rw [lineOutcome_of_uncorrectable hw] at h
  split at h <;> simp at h

theorem lineOutcome_eq_uncorrectable_iff (bits : StoredLine) :
    lineOutcome bits = .uncorrectable ↔
      lineOutcome bits ≠ .mark ∧ ∃ w : Fin 8, wordOutcome (storedWord bits w.val) = .uncorrectable := by
  constructor
  · intro h
    refine ⟨by simp [h], ?_⟩
    by_contra hno
    rw [lineOutcome_of_correctable (not_exists.1 hno)] at h
    split at h <;> cases h
  · rintro ⟨hmark, w, hw⟩
    rw [lineOutcome_of_uncorrectable hw, if_neg fun hall => hmark (lineOutcome_mark hall)]

theorem lineOutcome_eq_corrected_iff (bits : StoredLine) :
    lineOutcome bits = .corrected ↔
      (∀ w : Fin 8, wordOutcome (storedWord bits w.val) ≠ .uncorrectable) ∧
      ∃ (w : Fin 8) (q : Fin 72), wordOutcome (storedWord bits w.val) = .corrected q := by
  simp only [← WordOutcome.position?_eq_some, ← Option.isSome_iff_exists]
  constructor
  · intro h
    have hc := correctable_of_lineOutcome (.inl h)
    rw [lineOutcome_of_correctable hc] at h
    split at h
    · exact ⟨hc, ‹_›⟩
    · cases h
  · rintro ⟨hc, hex⟩
    rw [lineOutcome_of_correctable hc, if_pos hex]

theorem lineOutcome_eq_clean_iff (bits : StoredLine) :
    lineOutcome bits = .clean ↔ ∀ w : Fin 8, wordOutcome (storedWord bits w.val) = .clean := by
  refine ⟨fun h w => ?_, lineOutcome_clean⟩
  have hc := correctable_of_lineOutcome (.inr h)
  rw [lineOutcome_of_correctable hc] at h
  split at h
  · cases h
  · next hno => exact WordOutcome.clean_of_position?_none (hc w) (Option.not_isSome_iff_eq_none.1 (not_exists.1 hno w))

/-! ### The reported cell (R27) -/

theorem decodeLine_outcome (l : LineAddr) (c : Column) (p : Place) (bits : StoredLine) :
    (decodeLine l c p bits).outcome = lineOutcome bits := rfl

theorem decodeLine_cell_corrected (l : LineAddr) {c : Column} {p : Place} {bits : StoredLine}
    (h : lineOutcome bits = .corrected) : (decodeLine l c p bits).cell = firstCorrected c bits := if_pos h

theorem decodeLine_cell_none (l : LineAddr) {c : Column} {p : Place} {bits : StoredLine} (h : lineOutcome bits ≠ .corrected) :
    (decodeLine l c p bits).cell = none := if_neg h

/-- A search through the indices in order stops at the lowest index that answers. -/
theorem findSome?_finRange_eq_some {n : Nat} {β : Type} {f : Fin n → Option β} {b : β}
    (h : (List.finRange n).findSome? f = some b) : ∃ w : Fin n, f w = some b ∧ ∀ v : Fin n, v < w → f v = none := by
  obtain ⟨before, w, after, hsplit, hw, hbefore⟩ := List.findSome?_eq_some_iff.1 h
  refine ⟨w, hw, fun v hv => hbefore v ?_⟩
  have hsorted : (before ++ w :: after).Pairwise (· < ·) := hsplit ▸ List.pairwise_lt_finRange n
  have hmem : v ∈ before ++ w :: after := hsplit ▸ List.mem_finRange v
  rcases List.mem_append.1 hmem with hin | hin
  · exact hin
  · rcases List.mem_cons.1 hin with rfl | hafter
    · exact absurd hv (lt_irrefl v)
    · exact absurd hv (List.rel_of_pairwise_cons (List.pairwise_append.1 hsorted).2.1 hafter).not_gt

/-- The cell of a CORRECTED line is in its lowest CORRECTED word; the words below that one are CLEAN. -/
theorem firstCorrected_of_corrected (c : Column) {bits : StoredLine} (h : lineOutcome bits = .corrected) :
    ∃ (w : Fin 8) (q : Fin 72), firstCorrected c bits = some ⟨c, w, q⟩ ∧ wordOutcome (storedWord bits w.val) = .corrected q ∧
      ∀ v : Fin 8, v < w → wordOutcome (storedWord bits v.val) = .clean := by
  obtain ⟨hc, v, r, hv⟩ := (lineOutcome_eq_corrected_iff bits).1 h
  have hsome : (firstCorrected c bits).isSome = true :=
    List.findSome?_isSome_iff.2 ⟨v, List.mem_finRange v, by simp [hv, WordOutcome.position?]⟩
  obtain ⟨cell, hcell⟩ := Option.isSome_iff_exists.1 hsome
  obtain ⟨w, hw, hbelow⟩ := findSome?_finRange_eq_some hcell
  obtain ⟨q, hq, rfl⟩ := Option.map_eq_some_iff.1 hw
  exact ⟨w, q, hcell, WordOutcome.position?_eq_some.1 hq, fun v hv =>
    WordOutcome.clean_of_position?_none (hc v) (Option.map_eq_none_iff.1 (hbelow v hv))⟩

/-- Settles O8: one equivalence per outcome, and the search for the cell in word order. -/
theorem lineOutcomeFromWords : Obligations.LineOutcomeFromWords := by
  refine ⟨fun bits => ⟨?_, lineOutcome_eq_uncorrectable_iff bits, lineOutcome_eq_corrected_iff bits,
    lineOutcome_eq_clean_iff bits⟩, fun l c p bits => ⟨decodeLine_cell_none l, fun h => ?_⟩⟩
  · simp only [lineOutcome_eq_mark_iff, showsMark_iff]
  · rw [decodeLine_cell_corrected l h]
    exact firstCorrected_of_corrected c h

/-! ### The poison mark (R23, R24) -/

theorem markWord_getLsbD : ∀ q : Fin 72, markWord.getLsbD q.val = decide (q.val ∈ [0, 1, 2, 4, 8, 16, 32, 64]) := by decide

/-- A flipped bit makes the parity of a marked word odd, so that the word no longer shows the mark. -/
theorem showsMark_markWord_flip (q : Fin 72) : showsMark (markWord ^^^ BitVec.twoPow 72 q.val) = false := by
  obtain ⟨-, heven⟩ := (showsMark_iff markWord).1 showsMark_markWord
  rw [← Bool.not_eq_true, showsMark_iff, parity_xor, heven, parity_flip q.isLt]
  simp

theorem storedWord_markLine_flip (w v : Fin 8) (q : Fin 72) :
    storedWord (markLine ^^^ BitVec.twoPow 576 (72 * w.val + q.val)) v.val =
      if v = w then markWord ^^^ BitVec.twoPow 72 q.val else markWord := by
  rw [storedWord_xor, storedWord_markLine v.isLt, storedWord_flip]
  split
  · rfl
  · exact BitVec.xor_zero

/-- The damaged word does not show the mark, whatever it decodes to; the next word still does, and so is UNCORRECTABLE. -/
theorem lineOutcome_markLine_flip (w : Fin 8) (q : Fin 72) :
    lineOutcome (markLine ^^^ BitVec.twoPow 576 (72 * w.val + q.val)) = .uncorrectable := by
  obtain ⟨v, hv⟩ : ∃ v : Fin 8, v ≠ w := exists_ne w
  have hother : wordOutcome (storedWord (markLine ^^^ BitVec.twoPow 576 (72 * w.val + q.val)) v.val) = .uncorrectable := by
    rw [storedWord_markLine_flip, if_neg hv]
    exact wordOutcome_of_showsMark showsMark_markWord
  rw [lineOutcome_of_uncorrectable hother, if_neg]
  intro hall
  have hflipped := hall w
  rw [storedWord_markLine_flip, if_pos rfl, showsMark_markWord_flip] at hflipped
  cases hflipped

/-- Settles O7: seven words of the damaged mark stay UNCORRECTABLE, the eighth no longer shows the mark. -/
theorem poisonMarkDecodes : Obligations.PoisonMarkDecodes :=
  ⟨fun w => storedWord_markLine w.isLt, markWord_getLsbD, fun l c p => ⟨decodeLine_markLine l c p, fun w q =>
    ⟨(decodeLine_outcome l c p _).trans (lineOutcome_markLine_flip w q),
      decodeLine_cell_none l (by rw [lineOutcome_markLine_flip]; decide)⟩⟩⟩

end Sys2Proof.Machine
end

section
/-! PROOFS. The laws of O55 as a relation of two states, kept by what happens to line orders and queues. -/

namespace Sys2Proof.Machine

/-! ### The laws as a relation of two states

A command is a chain of operations, so keeping the laws is a reflexive and transitive relation of states: each operation is
shown to keep them once, and the commands are chains of those. -/

/-- Each law of O55 that `s` meets, `t` meets, and a RUNNING part stays RUNNING. -/
structure LawsKept (s t : State) : Prop where
  tags : TagsDistinct s → TagsDistinct t
  wbQueue : WbQueueLaw s → WbQueueLaw t
  verifyQueue : VerifyQueueLaw s → VerifyQueueLaw t
  credits : CreditLaw s → CreditLaw t
  badSpares : BadSpareLaw s → BadSpareLaw t
  media : MediaLaw s → MediaLaw t
  holder : HolderLaw s → HolderLaw t
  running : s.phase = .running → t.phase = .running

theorem LawsKept.refl (s : State) : LawsKept s s := ⟨id, id, id, id, id, id, id, id⟩

theorem LawsKept.trans {s t u : State} (h : LawsKept s t) (k : LawsKept t u) : LawsKept s u :=
  ⟨k.tags ∘ h.tags, k.wbQueue ∘ h.wbQueue, k.verifyQueue ∘ h.verifyQueue, k.credits ∘ h.credits,
    k.badSpares ∘ h.badSpares, k.media ∘ h.media, k.holder ∘ h.holder, k.running ∘ h.running⟩

/-- The lines and kinds of the background operations in the line orders: all that `HolderLaw` reads of them. -/
def occupants (s : State) : List (LineAddr × OpKind) := (background s).map fun o => (o.line, o.kind)

theorem occupants_eq_nil {s : State} : occupants s = [] ↔ background s = [] := List.map_eq_nil_iff

theorem onlyBackground_iff {s : State} {l : LineAddr} {p : OpKind → Prop} :
    OnlyBackground s l p ↔ ∃ k : OpKind, occupants s = [(l, k)] ∧ p k := by
  unfold occupants
  constructor
  · rintro ⟨o, hb, rfl, hp⟩
    exact ⟨o.kind, by rw [hb]; rfl, hp⟩
  · rintro ⟨k, ho, hp⟩
    obtain ⟨o, hb, he⟩ := List.map_eq_singleton_iff.1 ho
    cases he
    exact ⟨o, hb, rfl, hp⟩

/-- `HolderLaw` reads the slot, the step in flight and the occupants. -/
theorem holderLaw_congr {s t : State} (hslot : t.slot = s.slot) (hstep : t.engine.step = s.engine.step)
    (hocc : occupants t = occupants s) (h : HolderLaw s) : HolderLaw t := by
  simpa only [HolderLaw, onlyBackground_iff, ← occupants_eq_nil, hslot, hstep, hocc] using h

/-- What the laws read shrinks or stays from `s` to `t`; what `HolderLaw` reads stays. -/
structure Shrinks (s t : State) : Prop where
  tags : (t.ops.filterMap Op.tag).Sublist (s.ops.filterMap Op.tag)
  wbQueue : t.wbQueue.Sublist s.wbQueue
  verifyQueue : t.verifyQueue.Sublist s.verifyQueue
  credits : t.patrol.credits ≤ s.patrol.credits
  badSpares : t.persist.badSpares.Sublist s.persist.badSpares
  media : t.media = s.media
  slot : t.slot = s.slot
  step : t.engine.step = s.engine.step
  occupants : occupants t = occupants s
  phase : t.phase = s.phase

theorem wbQueueLaw_sublist {s t : State} (h : t.wbQueue.Sublist s.wbQueue) (hs : WbQueueLaw s) : WbQueueLaw t :=
  ⟨h.length_le.trans hs.1, hs.2.sublist (h.map _)⟩

theorem Shrinks.kept {s t : State} (h : Shrinks s t) : LawsKept s t where
  tags := fun hs => List.Nodup.sublist h.tags hs
  wbQueue := wbQueueLaw_sublist h.wbQueue
  verifyQueue := fun hs => ⟨h.verifyQueue.length_le.trans hs.1, hs.2.sublist h.verifyQueue⟩
  credits := h.credits.trans
  badSpares := fun hs => ⟨h.badSpares.length_le.trans hs.1, hs.2.sublist h.badSpares⟩
  media := fun hs => by rw [MediaLaw, h.media]; exact hs
  holder := holderLaw_congr h.slot h.step h.occupants
  running := h.phase.trans

/-- Nothing that the laws read differs. -/
def LawsSame (s t : State) : Prop :=
  t.ops = s.ops ∧ t.wbQueue = s.wbQueue ∧ t.verifyQueue = s.verifyQueue ∧ t.patrol.credits = s.patrol.credits ∧
    t.persist.badSpares = s.persist.badSpares ∧ t.media = s.media ∧ t.slot = s.slot ∧ t.engine.step = s.engine.step ∧
    t.phase = s.phase

theorem occupants_congr {s t : State} (h : t.ops = s.ops) : occupants t = occupants s := by
  rw [occupants, occupants, background, background, h]

theorem LawsSame.kept {s t : State} (h : LawsSame s t) : LawsKept s t := by
  obtain ⟨ho, hw, hv, hc, hb, hm, hslot, hstep, hphase⟩ := h
  exact Shrinks.kept ⟨by rw [ho], by rw [hw], by rw [hv], hc.le, by rw [hb], hm, hslot, hstep, occupants_congr ho,
    hphase⟩

/-- A change of the line orders alone that adds no tag and keeps the occupants. -/
theorem setOps_kept {s : State} {ops : List Op} (ht : (ops.filterMap Op.tag).Sublist (s.ops.filterMap Op.tag))
    (ho : occupants (s.setOps ops) = occupants s) : LawsKept s (s.setOps ops) :=
  Shrinks.kept ⟨ht, List.Sublist.refl _, List.Sublist.refl _, le_rfl, List.Sublist.refl _, rfl, rfl, rfl, ho, rfl⟩

/-! ### Line orders (R40, R41) -/

theorem filterMap_tag_congr {a b : List Op} (h : a.map Op.tag = b.map Op.tag) :
    a.filterMap Op.tag = b.filterMap Op.tag := by
  simpa [List.filterMap_map] using congrArg (List.filterMap id) h

theorem occupants_of_map {s t : State}
    (h : t.ops.map (fun o => (o.line, o.kind)) = s.ops.map fun o => (o.line, o.kind)) : occupants t = occupants s := by
  have key (ops : List Op) : (ops.filter fun o => o.kind.isBackground).map (fun o => (o.line, o.kind)) =
      (ops.map fun o => (o.line, o.kind)).filter fun x => x.2.isBackground := by
    rw [List.filter_map]
    rfl
  rw [occupants, occupants, background, background, key, key, h]

/-- A change of operations that leaves line, kind and tag of each. -/
theorem setOps_kept_of_map {s : State} {ops : List Op}
    (h : ops.map (fun o => (o.line, o.kind, o.tag)) = s.ops.map fun o => (o.line, o.kind, o.tag)) :
    LawsKept s (s.setOps ops) := by
  refine setOps_kept ?_ (occupants_of_map ?_)
  · rw [filterMap_tag_congr (b := s.ops)]
    simpa [Function.comp_def] using congrArg (List.map fun x => x.2.2) h
  · simpa [Function.comp_def] using congrArg (List.map fun x => (x.1, x.2.1)) h

theorem setStage_kept (l : LineAddr) (st : Stage) (s : State) : LawsKept s (setStage l st s) :=
  setOps_kept_of_map (map_modifyFirst _ _ _ _ fun _ => rfl)

theorem closeRead_kept (l : LineAddr) (s : State) : LawsKept s (closeRead l s) :=
  setOps_kept_of_map (map_modifyFirst _ _ _ _ fun _ => rfl)

theorem setStamps_kept (s : State) (n : Nat) : LawsKept s (s.setStamps n) := LawsSame.kept (by simp [LawsSame])

theorem issueRead_kept (l : LineAddr) (p : Place) (via : Bool) (s : State) : LawsKept s (issueRead l p via s) :=
  (setStage_kept l _ s).trans (setStamps_kept _ _)

theorem issueReread_kept (l : LineAddr) (p : Place) (s : State) : LawsKept s (issueReread l p s) :=
  (setStage_kept l _ s).trans (setStamps_kept _ _)

theorem issueWrite_kept (l : LineAddr) (ts : List Place) (c : LineContent) (s : State) : LawsKept s (issueWrite l ts c s) :=
  (setStage_kept l _ s).trans (setStamps_kept _ _)

/-- The departure of the first element that `q` holds of, seen through a filter. -/
theorem filter_eraseP_head {α : Type} {p q : α → Bool} {l : List α} {a : α} (h : l.find? q = some a) :
    (l.eraseP q).filter p = if p a then (l.filter p).eraseP q else l.filter p := by
  induction l with
  | nil => cases h
  | cons x l ih =>
    by_cases hq : q x = true
    · rw [List.find?_cons_of_pos hq] at h
      cases h
      by_cases hp : p a = true <;> simp [hq, hp]
    · rw [List.find?_cons_of_neg hq] at h
      rw [List.eraseP_cons_of_neg hq, List.filter_cons, ih h]
      by_cases hx : p x = true <;> by_cases hp : p a = true <;> simp [hx, hp, hq]

theorem leaveOrder_tags (l : LineAddr) (s : State) :
    ((leaveOrder l s).ops.filterMap Op.tag).Sublist (s.ops.filterMap Op.tag) :=
  List.Sublist.filterMap _ (List.eraseP_sublist)

/-- A host request leaves its line's order: the background operations stay. -/
theorem leaveOrder_kept {l : LineAddr} {s : State} {o : Op} (h : headOp s l = some o) (hk : o.kind.isBackground = false) :
    LawsKept s (leaveOrder l s) := by
  refine setOps_kept (leaveOrder_tags l s) ?_
  rw [occupants, occupants, background, State.setOps_ops, filter_eraseP_head h, if_neg (by simp [hk])]

/-- The one background operation leaves its line's order. -/
theorem background_leaveOrder {l l' : LineAddr} {k : OpKind} {s : State} {o : Op} (h : headOp s l = some o)
    (hk : o.kind.isBackground = true) (hs : occupants s = [(l', k)]) : occupants (leaveOrder l s) = [] := by
  obtain ⟨o', hb, -⟩ := List.map_eq_singleton_iff.1 hs
  have ho : o ∈ background s := List.mem_filter.2 ⟨List.mem_of_find?_eq_some h, hk⟩
  have hq : o.line = l := headOp_line h
  rw [hb, List.mem_singleton] at ho
  subst ho
  rw [occupants_eq_nil, background, leaveOrder, State.setOps_ops, filter_eraseP_head h, if_pos hk]
  simpa [hb] using hq

theorem nodup_append_singleton {α : Type} {l : List α} {a : α} (h : l.Nodup) (ha : a ∉ l) : (l ++ [a]).Nodup := by
  rw [← List.concat_eq_append]
  exact h.concat ha

/-- A request with a free tag joins (R38). -/
theorem joinOrder_request_kept {s : State} {o : Op} {t : Tag} (ht : o.tag = some t)
    (hfree : t ∉ s.ops.filterMap Op.tag) (hk : o.kind.isBackground = false) : LawsKept s (joinOrder o s) where
  tags hs := by
    simp only [TagsDistinct, joinOrder, State.setOps_ops, List.filterMap_append, List.filterMap_cons, ht, List.filterMap_nil]
    exact nodup_append_singleton hs hfree
  wbQueue := id
  verifyQueue := id
  credits := id
  badSpares := id
  media := id
  holder := holderLaw_congr (by simp) (by simp) (by simp [occupants, background, joinOrder, hk])
  running := id

theorem reportOccupancy_kept (s : State) : LawsKept s (reportOccupancy s) := LawsSame.kept (by simp [LawsSame])

theorem orphanAll_kept (s : State) : LawsKept s (orphanAll s) := by
  refine LawsKept.trans (setOps_kept ?_ (occupants_of_map ?_)) (reportOccupancy_kept _)
  · simp [List.filterMap_map]
  · simp

/-! ### Queues (R103 to R105, R111) -/

/-- A change of the writeback queue alone. -/
theorem setWbQueue_kept {s : State} {q : List WbEntry} (h : WbQueueLaw s → WbQueueLaw (s.setWbQueue q)) :
    LawsKept s (s.setWbQueue q) :=
  ⟨id, h, id, id, id, id, holderLaw_congr rfl rfl rfl, id⟩

theorem count_kept (c : Counter) (s : State) : LawsKept s (count c s) := LawsSame.kept (by simp [LawsSame])

theorem raise_kept (f : AttnFlag) (s : State) : LawsKept s (raise f s) := LawsSame.kept (by simp [LawsSame])

theorem requestWriteback_kept (l : LineAddr) (c : LineContent) (overtaken : Bool) (s : State) :
    LawsKept s (requestWriteback l c overtaken s) := by
  unfold requestWriteback
  split
  · exact count_kept _ s
  · split
    · refine setWbQueue_kept fun ⟨hn, hd⟩ => ?_
      have hm := map_modifyFirst (fun e : WbEntry => e.line == l) (fun e => { e with content := c }) WbEntry.line s.wbQueue
        fun _ => rfl
      refine ⟨?_, by rw [State.setWbQueue_wbQueue, hm]; exact hd⟩
      have hl := congrArg List.length hm
      simp only [List.length_map] at hl
      exact hl.le.trans hn
    · next hnone =>
      split
      · exact count_kept _ s
      · next hroom =>
        refine setWbQueue_kept fun ⟨_, hd⟩ => ⟨by simp; omega, ?_⟩
        rw [State.setWbQueue_wbQueue, List.map_append]
        refine nodup_append_singleton hd fun hin => ?_
        obtain ⟨e, he, hl⟩ := List.mem_map.1 hin
        exact absurd (beq_iff_eq.2 hl) (List.find?_eq_none.1 hnone e he)

theorem requestVerify_kept (l : LineAddr) (s : State) : LawsKept s (requestVerify l s) := by
  unfold requestVerify
  split
  · exact .refl s
  · next hnot =>
    split
    · exact count_kept _ s
    · next hroom =>
      refine ⟨id, id, fun ⟨_, hd⟩ => ⟨by simp; omega, ?_⟩, id, id, id, holderLaw_congr rfl rfl rfl, id⟩
      exact nodup_append_singleton hd (by simpa using hnot)

theorem writeNotice_kept (l : LineAddr) (s : State) : LawsKept s (writeNotice l s) := by
  unfold writeNotice
  dsimp only
  have hops := setOps_kept_of_map (s := s)
    (ops := s.ops.map fun o => if o.line = l then { o with openRead := o.openRead.map fun _ => true } else o)
    (by
      rw [List.map_map]
      refine List.map_congr_left fun o _ => ?_
      dsimp only [Function.comp]
      split <;> rfl)
  split
  · exact hops.trans ((setWbQueue_kept (wbQueueLaw_sublist List.filter_sublist)).trans (count_kept _ _))
  · exact hops

end Sys2Proof.Machine
end

section
/-! PROOFS. The laws of O55, kept by what happens to records, spares, migration steps and error events. -/

namespace Sys2Proof.Machine

/-! ### Records, spares and the persist engine -/

theorem updateRecord_kept (k : RowKey) (f : Record → Record) (s : State) : LawsKept s (updateRecord k f s) :=
  LawsSame.kept (by simp [LawsSame])

theorem setTable_kept (s : State) (t : List Record) : LawsKept s (s.setTable t) := LawsSame.kept (by simp [LawsSame])

theorem setQueue_kept (s : State) (q : MigQueue) : LawsKept s (s.setQueue q) := LawsSame.kept (by simp [LawsSame])

theorem setMarked_kept (s : State) (m : List Column) : LawsKept s (s.setEngine { s.engine with marked := m }) :=
  LawsSame.kept (by simp [LawsSame])

theorem setSpare_kept (p : BankPos) (i : SpareIdx) (st : SpareState) (s : State) : LawsKept s (setSpare p i st s) :=
  LawsSame.kept (by simp [LawsSame])

theorem burn_kept (p : BankPos) (i : SpareIdx) (s : State) : LawsKept s (burn p i s) := LawsSame.kept (by simp [LawsSame])

theorem condemn_kept (k : RowKey) (s : State) : LawsKept s (condemn k s) := LawsSame.kept (by simp [LawsSame])

theorem startAttempt_kept (k : RowKey) (d : SpareIdx) (n : Nat) (s : State) : LawsKept s (startAttempt k d n s) :=
  LawsSame.kept (by simp [LawsSame, startAttempt])

/-- The engine's step in flight does not hear of migrations that are taken (R150). -/
theorem serveQueue_kept (s : State) : LawsKept s (serveQueue s) :=
  LawsSame.kept (by simp [LawsSame, serveQueue, takeHeads_engine])

theorem setPersist_kept {s : State} {p : Persist} (h : p.badSpares.Sublist s.persist.badSpares) :
    LawsKept s (s.setPersist p) :=
  Shrinks.kept ⟨List.Sublist.refl _, List.Sublist.refl _, List.Sublist.refl _, le_rfl, h, rfl, rfl, rfl, rfl, rfl⟩

theorem beginProgram_kept (item : StoreItem) (n : Nat) (s : State) : LawsKept s (beginProgram item n s) := by
  unfold beginProgram
  split
  · exact setPersist_kept (List.Sublist.refl _)
  · exact (setTable_kept s _).trans ((setPersist_kept (List.nil_sublist _)).trans (raise_kept _ _))

theorem startPersist_kept (s : State) : LawsKept s (startPersist s) := by
  unfold startPersist
  split
  · split
    · exact beginProgram_kept _ _ s
    · exact .refl s
  · exact .refl s

theorem reportBadSpare_kept (b : SpareName) (s : State) : LawsKept s (reportBadSpare b s) := by
  unfold reportBadSpare
  split
  · exact .refl s
  · next hnew =>
    obtain ⟨hnot, hroom⟩ := not_or.1 hnew
    refine ⟨id, id, id, id, fun ⟨_, hd⟩ => ⟨by simp; omega, ?_⟩, id, holderLaw_congr rfl rfl rfl, id⟩
    exact nodup_append_singleton hd (by simpa using hnot)

/-! ### The slot and its operation, slot by slot (R139, R152, R155, R160) -/

/-- The occupants that a migration step has at its stage. -/
def MigStep.occupants (st : MigStep) : List (LineAddr × OpKind) :=
  match st.stage with
  | .copyRead => [(st.line, .copyRead)]
  | .awaitHost _ => []
  | .copyWrite => [(st.line, .copyWrite)]
  | .checkRead => [(st.line, .checkRead)]

theorem holderLaw_free {s : State} (hslot : s.slot = none) : HolderLaw s ↔ s.engine.step = none ∧ occupants s = [] := by
  rw [HolderLaw, hslot, occupants_eq_nil]

theorem holderLaw_writeback {s : State} {l : LineAddr} (hslot : s.slot = some (.writeback l)) :
    HolderLaw s ↔ s.engine.step = none ∧ ∃ c : LineContent, occupants s = [(l, .writeback c)] := by
  simp only [HolderLaw, hslot, onlyBackground_iff]
  exact and_congr_right fun _ => ⟨fun ⟨k, ho, c, hk⟩ => ⟨c, hk ▸ ho⟩, fun ⟨c, ho⟩ => ⟨_, ho, c, rfl⟩⟩

theorem holderLaw_verify {s : State} {l : LineAddr} (hslot : s.slot = some (.verify l)) :
    HolderLaw s ↔ s.engine.step = none ∧ occupants s = [(l, .verify)] := by
  simp only [HolderLaw, hslot, onlyBackground_iff, exists_eq_right]

theorem holderLaw_patrol {s : State} {l : LineAddr} (hslot : s.slot = some (.patrol l)) :
    HolderLaw s ↔ s.engine.step = none ∧ occupants s = [(l, .patrol)] := by
  simp only [HolderLaw, hslot, onlyBackground_iff, exists_eq_right]

theorem holderLaw_migration {s : State} (hslot : s.slot = some .migration) :
    HolderLaw s ↔ ∃ st : MigStep, s.engine.step = some st ∧ occupants s = st.occupants := by
  simp only [HolderLaw, hslot]
  refine exists_congr fun st => and_congr_right fun _ => ?_
  unfold MigStep.occupants
  cases st.stage with
  | awaitHost c => exact occupants_eq_nil.symm
  | copyRead => simp only [onlyBackground_iff, exists_eq_right]
  | copyWrite => simp only [onlyBackground_iff, exists_eq_right]
  | checkRead => simp only [onlyBackground_iff, exists_eq_right]

/-- A step stands only while the migration holds the slot, with the operation that its stage names. -/
theorem holderLaw_step {s : State} {st : MigStep} (h : HolderLaw s) (hst : s.engine.step = some st) :
    s.slot = some .migration ∧ occupants s = st.occupants := by
  cases hslot : s.slot with
  | none => simp [(holderLaw_free hslot).1 h] at hst
  | some holder =>
    cases holder with
    | writeback l => simp [((holderLaw_writeback hslot).1 h).1] at hst
    | verify l => simp [((holderLaw_verify hslot).1 h).1] at hst
    | patrol l => simp [((holderLaw_patrol hslot).1 h).1] at hst
    | migration =>
      obtain ⟨st', hst', hocc⟩ := (holderLaw_migration hslot).1 h
      cases hst.symm.trans hst'
      exact ⟨rfl, hocc⟩

/-- A slot held by anything but the migration: no step stands. -/
theorem holderLaw_no_step {s : State} (h : HolderLaw s) (hslot : s.slot ≠ some .migration) : s.engine.step = none :=
  Option.eq_none_iff_forall_ne_some.2 fun _ hst => hslot (holderLaw_step h hst).1

/-- At most one background operation stands, and none while the slot is free (R139). -/
theorem slotLaw_of_holderLaw {s : State} (h : HolderLaw s) : SlotLaw s := by
  have hlen : (background s).length = (occupants s).length := (List.length_map _).symm
  rw [SlotLaw, hlen]
  cases hslot : s.slot with
  | none =>
    obtain ⟨-, hocc⟩ := (holderLaw_free hslot).1 h
    exact ⟨by simp [hocc], fun _ => occupants_eq_nil.1 hocc⟩
  | some holder =>
    refine ⟨?_, by simp⟩
    cases holder with
    | writeback l => obtain ⟨-, c, hocc⟩ := (holderLaw_writeback hslot).1 h; simp [hocc]
    | verify l => simp [((holderLaw_verify hslot).1 h).2]
    | patrol l => simp [((holderLaw_patrol hslot).1 h).2]
    | migration =>
      obtain ⟨st, -, hocc⟩ := (holderLaw_migration hslot).1 h
      rw [hocc, MigStep.occupants]
      cases st.stage <;> simp

/-! ### Slot and step change together -/

/-- A change of slot, step and line orders, with what the other laws read shrinking or staying. -/
theorem LawsKept.of_holder {s t : State} (ht : (t.ops.filterMap Op.tag).Sublist (s.ops.filterMap Op.tag))
    (hw : t.wbQueue.Sublist s.wbQueue) (hv : t.verifyQueue.Sublist s.verifyQueue)
    (hc : t.patrol.credits = s.patrol.credits) (hb : t.persist = s.persist) (hm : t.media = s.media)
    (hr : t.phase = s.phase) (h : HolderLaw s → HolderLaw t) : LawsKept s t where
  tags hs := List.Nodup.sublist ht hs
  wbQueue := wbQueueLaw_sublist hw
  verifyQueue hs := ⟨hv.length_le.trans hs.1, hs.2.sublist hv⟩
  credits := hc.le.trans
  badSpares hs := by rw [BadSpareLaw, hb]; exact hs
  media hs := by rw [MediaLaw, hm]; exact hs
  holder := h
  running := hr.trans

/-- The attempt of a step ends (R160): a step that waits for a host write frees the slot, any other is left over. -/
theorem orphanStep_kept (s : State) : LawsKept s (orphanStep s) := by
  refine LawsKept.of_holder (by simp) (by simp) (by simp) (by simp) (by simp) (by simp) (by simp) fun h => ?_
  unfold orphanStep
  cases hst : s.engine.step with
  | none => exact h
  | some st =>
    obtain ⟨hslot, hocc⟩ := holderLaw_step h hst
    dsimp only
    split
    · next c hstage =>
      refine (holderLaw_free rfl).2 ⟨rfl, ?_⟩
      rw [MigStep.occupants, hstage] at hocc
      exact hocc
    · have hleft := holderLaw_migration (s := s.setEngine { s.engine with step := some { st with leftover := true } }) hslot
      exact hleft.2 ⟨{ st with leftover := true }, rfl, hocc⟩

/-- The step in flight ends with its operation (R152, R160). -/
theorem endStep_holder {s : State} (hocc : occupants s = []) : HolderLaw (endStep s) :=
  (holderLaw_free rfl).2 ⟨rfl, hocc⟩

theorem failAttempt_kept (r : Record) (d : SpareIdx) (s : State) : LawsKept s (failAttempt r d s) := by
  have hbase : LawsKept s (failedBase r d s) :=
    (burn_kept _ d s).trans ((reportBadSpare_kept _ _).trans ((setMarked_kept _ []).trans (orphanStep_kept _)))
  rw [failAttempt_eq]
  refine hbase.trans (LawsKept.trans ?_ (startPersist_kept _))
  split
  · exact startAttempt_kept _ _ _ _
  · exact (condemn_kept _ _).trans (serveQueue_kept _)

theorem reportFailure_kept (l : LineAddr) (d : SpareIdx) (s : State) : LawsKept s (reportFailure l d s) := by
  unfold reportFailure
  split
  · split
    · exact failAttempt_kept _ d s
    · exact .refl s
  · exact .refl s

theorem reserve_kept (l : LineAddr) (p : Place) (s : State) : LawsKept s (reserve l p s) := by
  unfold reserve
  cases p with
  | hostRow => exact issueReread_kept l _ s
  | spare d => exact (reportFailure_kept l d s).trans (issueReread_kept l _ _)

theorem completeMigration_kept (r : Record) (d : SpareIdx) (s : State) : LawsKept s (completeMigration r d s) := by
  unfold completeMigration
  dsimp only
  have hrest (t : State) : LawsKept t (startPersist (serveQueue ((raise .spareDone (count .migrationsDone
      (updateRecord r.key (Record.complete d t.params.autoPersist) t))).setEngine { t.engine with marked := [] }))) :=
    LawsKept.trans (LawsSame.kept (by simp [LawsSame])) ((serveQueue_kept _).trans (startPersist_kept _))
  split
  · exact (burn_kept _ _ s).trans (by simpa using hrest (burn _ _ s))
  · simpa using hrest s

theorem passCheck_kept (r : Record) (d : SpareIdx) (s : State) : LawsKept s (passCheck r d s) := by
  unfold passCheck
  split
  · split
    · exact completeMigration_kept r d s
    · exact updateRecord_kept _ _ s
  · exact .refl s

theorem judgeCheck_kept (st : MigStep) (out : LineOutcome) (s : State) : LawsKept s (judgeCheck st out s) := by
  unfold judgeCheck
  split
  · split
    · exact passCheck_kept _ _ s
    · exact failAttempt_kept _ _ s
  · exact .refl s

/-! ### Error events (R60 to R63, R95)

An event changes records, spares and the migration queue, and nothing that the laws read. -/

theorem LawsSame.trans {s t u : State} (h : LawsSame s t) (k : LawsSame t u) : LawsSame s u := by
  obtain ⟨h1, h2, h3, h4, h5, h6, h7, h8, h9⟩ := h
  obtain ⟨k1, k2, k3, k4, k5, k6, k7, k8, k9⟩ := k
  exact ⟨k1.trans h1, k2.trans h2, k3.trans h3, k4.trans h4, k5.trans h5, k6.trans h6, k7.trans h7, k8.trans h8,
    k9.trans h9⟩

theorem enqueue_same (k : RowKey) (u : Bool) (s : State) : LawsSame s (enqueue k u s) := by
  simp [LawsSame, enqueue, serveQueue, takeHeads_engine]

theorem enqueue_kept (k : RowKey) (u : Bool) (s : State) : LawsKept s (enqueue k u s) := (enqueue_same k u s).kept

theorem applyVerdict_same (r : Record) (v : Verdict) (s : State) : LawsSame s (applyVerdict r v s) := by
  have hupdate (f : Record → Record) : LawsSame s (updateRecord r.key f s) := by simp [LawsSame]
  unfold applyVerdict
  split
  · simp [LawsSame]
  · exact hupdate _
  · exact enqueue_same _ _ s
  · split
    · exact enqueue_same _ _ s
    · exact hupdate _

theorem applyEvent_same (ev : ErrorEvent) (r : Record) (s : State) : LawsSame s (applyEvent ev r s) := by
  unfold applyEvent
  dsimp only
  refine LawsSame.trans ?_ (applyVerdict_same _ _ _)
  split <;> simp [LawsSame]

theorem receiveEvent_same (ev : ErrorEvent) (s : State) : LawsSame s (receiveEvent ev s) := by
  have hcount : LawsSame s (countEvent ev s) := by simp [LawsSame]
  refine hcount.trans ?_
  unfold receiveEvent
  dsimp only
  split
  · exact applyEvent_same _ _ _
  · split
    · next h =>
      obtain ⟨_, _, -, -, rfl⟩ := createRecord_spec h
      exact LawsSame.trans (by simp [LawsSame]) (applyEvent_same _ _ _)
    · simp [LawsSame]

theorem handEvent_same (d : Decode) (g : Origin) (s : State) : LawsSame s (handEvent d g s) := by
  unfold handEvent
  split
  · exact receiveEvent_same _ s
  · exact receiveEvent_same _ s
  · simp [LawsSame]

theorem handEvent_kept (d : Decode) (g : Origin) (s : State) : LawsKept s (handEvent d g s) := (handEvent_same d g s).kept

theorem handEvent_step (d : Decode) (g : Origin) (s : State) : (handEvent d g s).engine.step = s.engine.step := by
  obtain ⟨-, -, -, -, -, -, -, hstep, -⟩ := handEvent_same d g s
  exact hstep

theorem handWriteback_kept (d : Decode) (b : Bool) (s : State) : LawsKept s (handWriteback d b s) := by
  unfold handWriteback
  split
  · exact requestWriteback_kept _ _ _ s
  · exact requestWriteback_kept _ _ _ s
  · exact .refl s
  · exact .refl s

theorem handMark_kept (d : Decode) (b : Bool) (s : State) : LawsKept s (handMark d b s) := by
  unfold handMark
  split
  · exact requestWriteback_kept _ _ _ s
  all_goals exact .refl s

theorem handVerify_kept (d : Decode) (s : State) : LawsKept s (handVerify d s) := by
  unfold handVerify
  split
  · exact requestVerify_kept _ s
  all_goals exact .refl s

end Sys2Proof.Machine
end

section
/-! PROOFS. The laws of O55, kept by what host requests and background operations do. -/

namespace Sys2Proof.Machine

/-! ### Host requests (R43 to R51) -/

theorem setLinkOut_kept (s : State) (v : List OutFrame) : LawsKept s (s.setLinkOut v) := LawsSame.kept (by simp [LawsSame])

theorem finishRequest_kept {l : LineAddr} {o : Op} (f : Tag → OutFrame) {s : State} (h : headOp s l = some o)
    (hk : o.kind.isBackground = false) : LawsKept s (finishRequest l o f s) := by
  refine (leaveOrder_kept h hk).trans ?_
  unfold finishRequest
  dsimp only
  split
  · exact (setLinkOut_kept _ _).trans (reportOccupancy_kept _)
  · exact .refl _

theorem headOp_congr {s t : State} (h : t.ops = s.ops) (l : LineAddr) : headOp t l = headOp s l := by
  rw [headOp, headOp, h]

theorem finishRead_kept {l : LineAddr} {o : Op} (d : Decode) {s : State} (h : headOp s l = some o)
    (hk : o.kind.isBackground = false) : LawsKept s (finishRead l o d s) := by
  unfold finishRead completeRead
  dsimp only
  refine (handEvent_kept d .hostRead s).trans ((handWriteback_kept d o.overtaken _).trans ((handVerify_kept d _).trans ?_))
  split
  · exact (count_kept .poisonReads _).trans (finishRequest_kept _ (by rw [headOp_congr (s := s) (by simp), h]) hk)
  · exact finishRequest_kept _ (by rw [headOp_congr (s := s) (by simp), h]) hk

theorem performRead_kept {l : LineAddr} {o : Op} {s : State} (h : headOp s l = some o)
    (hk : o.kind.isBackground = false) : LawsKept s (performRead l o s) := by
  have hcount : headOp (count .poisonReads s) l = some o := by rw [headOp_congr (s := s) (by simp), h]
  unfold performRead completeRead
  dsimp only
  split
  · exact (count_kept .poisonReads s).trans (finishRequest_kept _ hcount hk)
  · split
    · exact finishRequest_kept _ h hk
    · exact (count_kept .poisonReads s).trans (finishRequest_kept _ hcount hk)
    · exact issueRead_kept l _ _ s

theorem performWrite_kept (l : LineAddr) (d : LineData) (s : State) : LawsKept s (performWrite l d s) :=
  (updateRecord_kept _ _ s).trans (issueWrite_kept l _ _ _)

theorem writeLine_kept (l : LineAddr) (ts : List Place) (c : LineContent) (s : State) : LawsKept s (writeLine l ts c s) :=
  ⟨id, id, id, id, id, writeLine_wf l ts c s, holderLaw_congr rfl rfl rfl, id⟩

theorem followMarked_kept (l : LineAddr) (ts : List Place) (c : LineContent) (s : State) :
    LawsKept s (followMarked l ts c s) := by
  unfold followMarked
  split
  · split
    · cases c <;> exact setMarked_kept s _
    · exact .refl s
  · exact .refl s

/-- A copy step that waits for a host write stands with no operation of its own (R155). -/
theorem awaited_occupants {s : State} {l : LineAddr} {c : LineContent} (h : awaitedContent s l = some c)
    (hs : HolderLaw s) :
    ∃ st : MigStep, s.engine.step = some st ∧ st.line = l ∧ s.slot = some .migration ∧ occupants s = [] := by
  unfold awaitedContent at h
  cases hst : s.engine.step with
  | none => simp [hst] at h
  | some st =>
    obtain ⟨hslot, hocc⟩ := holderLaw_step hs hst
    rw [hst] at h
    dsimp only at h
    split at h
    · next hline =>
      split at h
      · next hstage =>
        rw [MigStep.occupants, hstage] at hocc
        exact ⟨st, rfl, hline.1, hslot, hocc⟩
      · cases h
    · cases h

theorem hostWriteEndsColumn_kept (l : LineAddr) (s : State) : LawsKept s (hostWriteEndsColumn l s) := by
  refine LawsKept.of_holder (by simp) (by simp) (by simp) (by simp) (by simp) (by simp) (by simp) fun hs => ?_
  unfold hostWriteEndsColumn
  split
  · next h =>
    obtain ⟨_, -, -, -, hocc⟩ := awaited_occupants h hs
    exact endStep_holder (s := updateRecord _ _ s) hocc
  · exact hs

/-- A background operation joins where none stands. -/
theorem occupants_joined {s t : State} {o : Op} (ht : t.ops = s.ops ++ [o]) (hk : o.kind.isBackground = true)
    (hocc : occupants s = []) : occupants t = [(o.line, o.kind)] := by
  have hnil : (s.ops.filter fun o => o.kind.isBackground) = [] := occupants_eq_nil.1 hocc
  rw [occupants, background, ht, List.filter_append, hnil]
  simp [hk]

/-- The copy write that a migration step issues is its operation (R154, R156). -/
theorem issueCopyWrite_holder {s : State} {st : MigStep} (c : LineContent) (hslot : s.slot = some .migration)
    (hst : s.engine.step = some st) (hocc : occupants s = []) : HolderLaw (issueCopyWrite st.line c s) := by
  rw [issueCopyWrite_some hst]
  refine (holderLaw_migration ?_).2 ⟨{ st with stage := .copyWrite }, rfl, ?_⟩
  · exact hslot
  · exact occupants_joined (s := s) (o := ⟨st.line, .copyWrite, none, .writing [.spare st.dest] c s.stamps, none⟩) rfl rfl
      hocc

theorem issueCopyWrite_tags (l : LineAddr) (c : LineContent) (s : State) :
    ((issueCopyWrite l c s).ops.filterMap Op.tag).Sublist (s.ops.filterMap Op.tag) := by
  unfold issueCopyWrite
  split <;> simp [joinOrder]

theorem hostWriteGivenUp_kept (l : LineAddr) (s : State) : LawsKept s (hostWriteGivenUp l s) := by
  refine LawsKept.of_holder ?_ (by simp) (by simp) (by simp) (by simp) (by simp) (by simp) fun hs => ?_
  · unfold hostWriteGivenUp
    split
    · split
      · exact List.Sublist.refl _
      · exact issueCopyWrite_tags _ _ s
    · exact List.Sublist.refl _
  · unfold hostWriteGivenUp
    split
    · next h =>
      split
      · exact hs
      · obtain ⟨st, hst, rfl, hslot, hocc⟩ := awaited_occupants h hs
        exact issueCopyWrite_holder _ hslot hst hocc
    · exact hs

theorem finishWrite_kept {l : LineAddr} {o : Op} (ts : List Place) (c : LineContent) {s : State} (h : headOp s l = some o)
    (hk : o.kind.isBackground = false) : LawsKept s (finishWrite l o ts c s) :=
  (writeLine_kept l ts c s).trans ((followMarked_kept l ts c _).trans ((hostWriteEndsColumn_kept l _).trans
    (finishRequest_kept _ (by rw [headOp_congr (s := s) (by simp), h]) hk)))

theorem keepPoison_kept {l : LineAddr} {o : Op} {s : State} (h : headOp s l = some o)
    (hk : o.kind.isBackground = false) : LawsKept s (keepPoison l o s) :=
  (finishRequest_kept _ h hk).trans (hostWriteGivenUp_kept l _)

theorem finishReadHalf_kept {l : LineAddr} {o : Op} (data : LineData) (enables : BitVec 64) (d : Decode) {s : State}
    (h : headOp s l = some o) (hk : o.kind.isBackground = false) : LawsKept s (finishReadHalf l o data enables d s) := by
  unfold finishReadHalf
  dsimp only
  refine (handEvent_kept d .maskedWrite s).trans ((handMark_kept d o.overtaken _).trans ?_)
  have hhead : headOp (handMark d o.overtaken (handEvent d .maskedWrite s)) l = some o := by
    rw [headOp_congr (s := s) (by simp), h]
  split
  · exact (closeRead_kept l _).trans (performWrite_kept l _ _)
  · exact (closeRead_kept l _).trans (performWrite_kept l _ _)
  · exact keepPoison_kept hhead hk
  · exact keepPoison_kept hhead hk

/-! ### Background operations (R108, R114, R128, R139) -/

/-- The background operation in flight leaves its line's order and the slot is free. -/
theorem freeSlot_leaveOrder_kept {l : LineAddr} {s : State} {o : Op} (h : headOp s l = some o)
    (hk : o.kind.isBackground = true) (hslot : ∃ holder : Holder, s.slot = some holder ∧ holder ≠ .migration) :
    LawsKept s (freeSlot (leaveOrder l s)) := by
  refine LawsKept.of_holder (by simpa using leaveOrder_tags l s) (by simp) (by simp) (by simp) (by simp) (by simp) (by simp)
    fun hs => (holderLaw_free rfl).2 ?_
  obtain ⟨holder, hslot, hne⟩ := hslot
  have hstep : s.engine.step = none := holderLaw_no_step hs (by simp [hslot, hne])
  refine ⟨hstep, ?_⟩
  change occupants (leaveOrder l s) = []
  cases holder with
  | writeback l' =>
    obtain ⟨-, c, hocc⟩ := (holderLaw_writeback hslot).1 hs
    exact background_leaveOrder h hk hocc
  | verify l' => exact background_leaveOrder h hk ((holderLaw_verify hslot).1 hs).2
  | patrol l' => exact background_leaveOrder h hk ((holderLaw_patrol hslot).1 hs).2
  | migration => exact absurd rfl hne

/-- The operation of the step in flight leaves its line's order. -/
theorem step_leaveOrder {s : State} {st : MigStep} {o : Op} (hs : HolderLaw s) (hst : s.engine.step = some st)
    (h : headOp s st.line = some o) (hk : o.kind.isBackground = true) :
    s.slot = some .migration ∧ occupants (leaveOrder st.line s) = [] := by
  obtain ⟨hslot, hocc⟩ := holderLaw_step hs hst
  refine ⟨hslot, ?_⟩
  have hin : (o.line, o.kind) ∈ occupants s :=
    List.mem_map_of_mem (List.mem_filter.2 ⟨List.mem_of_find?_eq_some h, hk⟩)
  rw [hocc, MigStep.occupants] at hin
  rw [MigStep.occupants] at hocc
  cases hstage : st.stage with
  | awaitHost c => simp [hstage] at hin
  | copyRead => exact background_leaveOrder h hk (by simpa [hstage] using hocc)
  | copyWrite => exact background_leaveOrder h hk (by simpa [hstage] using hocc)
  | checkRead => exact background_leaveOrder h hk (by simpa [hstage] using hocc)

theorem occupants_issueBackground {s : State} {holder : Holder} {o : Op} (hk : o.kind.isBackground = true)
    (hocc : occupants s = []) : occupants (issueBackground holder o s) = [(o.line, o.kind)] :=
  occupants_joined rfl hk hocc

theorem issueBackground_tags (holder : Holder) (o : Op) (s : State) (h : o.tag = none) :
    ((issueBackground holder o s).ops.filterMap Op.tag).Sublist (s.ops.filterMap Op.tag) := by
  simp [issueBackground, joinOrder, h]

theorem issueWriteback_kept {s : State} (hslot : s.slot = none) : LawsKept s (issueWriteback s) := by
  unfold issueWriteback
  split
  · next e rest hq =>
    refine LawsKept.of_holder (issueBackground_tags _ _ _ rfl) (by simp [hq]) (by simp) (by simp) (by simp) (by simp) (by simp)
      fun hs => ?_
    obtain ⟨hstep, hocc⟩ := (holderLaw_free hslot).1 hs
    exact (holderLaw_writeback rfl).2 ⟨hstep, _, occupants_issueBackground (s := s.setWbQueue rest) rfl hocc⟩
  · exact .refl s

theorem issueVerify_kept {s : State} (hslot : s.slot = none) : LawsKept s (issueVerify s) := by
  unfold issueVerify
  split
  · refine LawsKept.of_holder (issueBackground_tags _ _ _ rfl) (by simp) (by simp) (by simp) (by simp) (by simp) (by simp)
      fun hs => ?_
    obtain ⟨hstep, hocc⟩ := (holderLaw_free hslot).1 hs
    exact (holderLaw_verify rfl).2 ⟨hstep, occupants_issueBackground (s := s.setVerifyQueue _) rfl hocc⟩
  · exact .refl s

theorem issuePatrol_kept {s : State} (hslot : s.slot = none) : LawsKept s (issuePatrol s) := by
  unfold issuePatrol
  split
  · refine LawsKept.of_holder (issueBackground_tags _ _ _ rfl) (by simp) (by simp) (by simp) (by simp) (by simp) (by simp)
      fun hs => ?_
    obtain ⟨hstep, hocc⟩ := (holderLaw_free hslot).1 hs
    exact (holderLaw_patrol rfl).2 ⟨hstep, occupants_issueBackground rfl hocc⟩
  · exact .refl s

theorem issueStep_kept {s : State} (hslot : s.slot = none) : LawsKept s (issueStep s) := by
  have hissue (l : LineAddr) (d : SpareIdx) (g : StepStage) (k : OpKind) (r : Option Bool) (hk : k.isBackground = true)
      (hg : (MigStep.mk l d g false).occupants = [(l, k)]) :
      LawsKept s (issueBackground .migration ⟨l, k, none, .waiting, r⟩
        (s.setEngine { s.engine with step := some ⟨l, d, g, false⟩ })) :=
    LawsKept.of_holder (issueBackground_tags _ _ _ rfl) (by simp) (by simp) (by simp) (by simp) (by simp) (by simp) fun hs =>
      (holderLaw_migration rfl).2 ⟨_, rfl, by
        rw [hg, occupants_issueBackground hk]
        exact ((holderLaw_free hslot).1 hs).2⟩
  unfold issueStep
  split
  · split
    · split
      · exact hissue _ _ .copyRead .copyRead _ rfl rfl
      · exact hissue _ _ .checkRead .checkRead _ rfl rfl
    · exact .refl s
  · exact .refl s

theorem issueFor_kept (c : Claimant) {s : State} (hslot : s.slot = none) : LawsKept s (issueFor c s) := by
  cases c with
  | writeback => exact issueWriteback_kept hslot
  | migration => exact issueStep_kept hslot
  | patrol => exact issuePatrol_kept hslot
  | verify => exact issueVerify_kept hslot

theorem finishVerify_kept {l : LineAddr} {o : Op} (d : Decode) {s : State} (hslot : s.slot = some (.verify l))
    (h : headOp s l = some o) (hk : o.kind = .verify) : LawsKept s (finishVerify l o d s) :=
  (handEvent_kept d .verify s).trans ((handWriteback_kept d o.overtaken _).trans (freeSlot_leaveOrder_kept
    (by rw [headOp_congr (s := s) (by simp), h]) (by rw [hk]; rfl) ⟨.verify l, by simp [hslot], by simp⟩))

/-- After a copy read the step has no operation of its own left: it ends, waits, or issues its copy write. -/
theorem afterCopyRead_kept {s : State} {st : MigStep} (content : LineContent) {o : Op} (hst : s.engine.step = some st)
    (h : headOp s st.line = some o) (hk : o.kind.isBackground = true) :
    LawsKept s (afterCopyRead st content (leaveOrder st.line s)) := by
  have htags := leaveOrder_tags st.line s
  refine LawsKept.of_holder ?_ (by simp) (by simp) (by simp) (by simp) (by simp) (by simp) fun hs => ?_
  · unfold afterCopyRead
    split
    · simpa using htags
    · split
      · exact htags
      · exact (issueCopyWrite_tags _ _ _).trans htags
  · obtain ⟨hslot, hocc⟩ := step_leaveOrder hs hst h hk
    unfold afterCopyRead
    split
    · exact endStep_holder hocc
    · split
      · exact (holderLaw_migration (s := (leaveOrder st.line s).setEngine _) hslot).2 ⟨_, rfl, hocc⟩
      · exact issueCopyWrite_holder content hslot hst hocc

theorem leaveOrder_endStep_kept {s : State} {st : MigStep} {o : Op} (hst : s.engine.step = some st)
    (h : headOp s st.line = some o) (hk : o.kind.isBackground = true) : LawsKept s (endStep (leaveOrder st.line s)) :=
  LawsKept.of_holder (by simpa using leaveOrder_tags st.line s) (by simp) (by simp) (by simp) (by simp) (by simp) (by simp)
    fun hs => endStep_holder (step_leaveOrder hs hst h hk).2

/-- The copy write's column ends with the step (R154). -/
theorem leaveOrder_endColumn_kept {s : State} {st : MigStep} {o : Op} (ts : List Place) (c : LineContent)
    (hst : s.engine.step = some st) (h : headOp s st.line = some o) (hk : o.kind.isBackground = true) :
    LawsKept s (endColumn st.line (followMarked st.line ts c (leaveOrder st.line s))) := by
  refine LawsKept.of_holder (by simpa using leaveOrder_tags st.line s) (by simp) (by simp) (by simp) (by simp) (by simp) (by simp)
    fun hs => endStep_holder ?_
  rw [← (step_leaveOrder hs hst h hk).2]
  exact occupants_congr (by simp)

end Sys2Proof.Machine
end

section
/-! PROOFS. The laws of O55, kept by what the patrol, the repair store and the management port do. -/

namespace Sys2Proof.Machine

/-! ### Patrol (R123 to R131) -/

/-- A change of the patrol that earns no credit. -/
theorem setPatrol_kept {s : State} {p : Patrol} (h : p.credits ≤ s.patrol.credits) : LawsKept s (s.setPatrol p) :=
  ⟨id, id, id, h.trans, id, id, holderLaw_congr rfl rfl rfl, id⟩

theorem setCurrent_kept (s : State) (c : Option Column) : LawsKept s (s.setPatrol { s.patrol with current := c }) :=
  setPatrol_kept le_rfl

theorem advanceCursor_kept (s : State) : LawsKept s (advanceCursor s) :=
  LawsSame.kept (by simp [LawsSame, advanceCursor_credits])

theorem completeRow_kept (s : State) : LawsKept s (completeRow s) :=
  (setCurrent_kept s none).trans (advanceCursor_kept _)

theorem beginRows_kept (n : Nat) (s : State) : LawsKept s (beginRows n s) := by
  induction n generalizing s with
  | zero => exact .refl s
  | succ n ih =>
    have hspend : LawsKept s (s.setPatrol { s.patrol with credits := s.patrol.credits - 1 }) :=
      setPatrol_kept (Nat.sub_le _ _)
    unfold beginRows
    split
    · dsimp only
      split
      · split
        · exact hspend.trans ((completeRow_kept _).trans (ih _))
        · exact hspend.trans (setCurrent_kept _ _)
      · exact hspend.trans (setCurrent_kept _ _)
    · exact .refl s

theorem beginRow_kept (s : State) : LawsKept s (beginRow s) := beginRows_kept _ s

theorem nextLine_kept (s : State) : LawsKept s (nextLine s) := by
  unfold nextLine
  split
  · split
    · exact setCurrent_kept s _
    · exact (completeRow_kept s).trans (beginRow_kept _)
  · exact .refl s

theorem restartPace_kept (s : State) : LawsKept s (restartPace s) := setPatrol_kept le_rfl

theorem maskChanged_kept (s : State) : LawsKept s (maskChanged s) := by
  refine (restartPace_kept s).trans ?_
  unfold maskChanged
  dsimp only
  split
  · exact setPatrol_kept (Nat.zero_le _)
  · split
    · exact (advanceCursor_kept _).trans (beginRow_kept _)
    · exact beginRow_kept _

theorem earnCredit_kept (s : State) : LawsKept s (earnCredit s) := by
  unfold earnCredit
  split
  · next h => exact ⟨id, id, id, fun _ => h, id, id, holderLaw_congr rfl rfl rfl, id⟩
  · exact (count_kept _ s).trans (raise_kept _ _)

/-! ### The repair store (R168 to R175) -/

theorem setStore_kept (s : State) (v : Vector StoreSlot 64) : LawsKept s (s.setStore v) := LawsSame.kept (by simp [LawsSame])

theorem setProgram_kept (s : State) (p : Option Program) : LawsKept s (s.setPersist { s.persist with program := p }) :=
  setPersist_kept (List.Sublist.refl _)

theorem dropBadSpare_kept (b : SpareName) (s : State) : LawsKept s (dropBadSpare b s) :=
  setPersist_kept List.filter_sublist

theorem settleItem_kept (item : StoreItem) (s : State) : LawsKept s (settleItem item s) := by
  cases item with
  | badSpare b => exact dropBadSpare_kept b s
  | repair k i => exact updateRecord_kept _ _ s

theorem dropItem_kept (item : StoreItem) (s : State) : LawsKept s (dropItem item s) := by
  cases item with
  | badSpare b => exact dropBadSpare_kept b s
  | repair k i => exact updateRecord_kept _ _ s

theorem completeProgram_kept (p : Program) (ok : Bool) (s : State) : LawsKept s (completeProgram p ok s) := by
  unfold completeProgram
  split
  · exact (setStore_kept s _).trans ((setProgram_kept _ none).trans ((settleItem_kept _ _).trans (startPersist_kept _)))
  · refine (setStore_kept s (s.store.set p.slot.val .burned)).trans ?_
    dsimp only
    split
    · exact beginProgram_kept _ _ _
    · exact (setProgram_kept _ none).trans ((raise_kept _ _).trans ((dropItem_kept _ _).trans (startPersist_kept _)))

theorem installRepair_kept (k : RowKey) (i : SpareIdx) (s : State) : LawsKept s (installRepair k i s) :=
  LawsSame.kept (by simp [LawsSame])

theorem installBadSpare_kept (b : SpareName) (s : State) : LawsKept s (installBadSpare b s) :=
  LawsSame.kept (by simp [LawsSame])

theorem setLoadNext_kept (s : State) (n : Nat) : LawsKept s (s.setLoadNext n) := LawsSame.kept (by simp [LawsSame])

theorem consumePending_kept (s : State) : LawsKept s (consumePending s) := LawsSame.kept (by simp [LawsSame])

/-! ### The management port (R163 to R165, R179 to R194) -/

theorem setPort_kept (s : State) (p : Port) : LawsKept s (s.setPort p) := LawsSame.kept (by simp [LawsSame])

theorem setAttn_kept (s : State) (a : Attention) : LawsKept s (s.setAttn a) := LawsSame.kept (by simp [LawsSame])

/-- A command on a record keeps the laws when what it does to a record that is found does. -/
theorem onRecord_kept {k : RowKey} {f : Record → State → State × Answer} {s : State}
    (hf : ∀ r : Record, LawsKept s (f r s).1) : LawsKept s (onRecord k f s).1 := by
  unfold onRecord
  split
  · exact hf _
  · exact .refl s

theorem watchRow_kept (k : RowKey) (s : State) : LawsKept s (watchRow k s).1 := by
  unfold watchRow
  split
  · exact updateRecord_kept _ _ s
  · split
    · next h =>
      obtain ⟨_, _, -, -, rfl⟩ := createRecord_spec h
      exact setTable_kept s _
    · exact .refl s

theorem forceQueue_kept (k : RowKey) (s : State) : LawsKept s (forceQueue k s) :=
  (updateRecord_kept k _ s).trans (enqueue_kept k true _)

theorem forceSpareRow_kept (k : RowKey) (s : State) : LawsKept s (forceSpareRow k s).1 := by
  unfold forceSpareRow
  split
  · split
    · exact forceQueue_kept k s
    · exact forceQueue_kept k s
    · exact forceQueue_kept k s
    · split
      · exact .refl s
      · exact forceQueue_kept k s
    · exact enqueue_kept k true s
    · exact .refl s
  · split
    · next h =>
      obtain ⟨_, _, -, -, rfl⟩ := createRecord_spec h
      exact (setTable_kept s _).trans (enqueue_kept k true _)
    · exact .refl s

theorem abortMigrating_kept (r : Record) (s : State) : LawsKept s (abortMigrating r s) := by
  unfold abortMigrating
  dsimp only
  have hrest (t : State) : LawsKept t (serveQueue (updateRecord r.key Record.abort (orphanStep
      (t.setEngine { t.engine with marked := [] })))) :=
    (setMarked_kept t []).trans ((orphanStep_kept _).trans ((updateRecord_kept _ _ _).trans (serveQueue_kept _)))
  split
  · exact (setSpare_kept _ _ _ s).trans (hrest _)
  · exact hrest s

theorem abortRow_kept (k : RowKey) (s : State) : LawsKept s (abortRow k s).1 := by
  refine onRecord_kept fun r => ?_
  cases r.state with
  | migrating => exact abortMigrating_kept r s
  | queued => exact (setQueue_kept s _).trans (updateRecord_kept _ _ _)
  | _ => exact .refl s

theorem setParameter_kept (id : ParamId) (v : BitVec 32) (s : State) : LawsKept s (setParameter id v s).1 := by
  have hset (t : State) (p : Params) : LawsKept t (t.setParams p) := LawsSame.kept (by simp [LawsSame])
  unfold setParameter
  dsimp only
  split
  · exact .refl s
  · refine (hset s (s.params.set (id.clamp v.toNat) id)).trans ?_
    cases id with
    | period => exact restartPace_kept _
    | bankMask => exact maskChanged_kept _
    | quietThreshold => exact LawsSame.kept (by simp [LawsSame, paramChanged])
    | _ => exact .refl _

theorem persistRow_kept (k : RowKey) (s : State) : LawsKept s (persistRow k s).1 := by
  refine onRecord_kept fun r => ?_
  split
  · exact .refl s
  · split
    · exact (updateRecord_kept _ _ s).trans (startPersist_kept _)
    · exact .refl s

/-- Every command's take-up keeps the laws (R181). -/
theorem takeUp_kept (c : PortCommand) (s : State) : LawsKept s (takeUp c s).1 := by
  cases c with
  | findRecord k => exact onRecord_kept fun _ => .refl s
  | readRecord n =>
    simp only [takeUp, readRecord]
    split <;> exact .refl s
  | watchRow k => exact watchRow_kept k s
  | pin k => exact onRecord_kept fun _ => updateRecord_kept _ _ s
  | unpin k => exact onRecord_kept fun _ => updateRecord_kept _ _ s
  | release k =>
    refine onRecord_kept fun r => ?_
    split
    · exact (setTable_kept s _).trans (setQueue_kept _ _)
    · exact .refl s
  | forceSpare k => exact forceSpareRow_kept k s
  | abortMigration k => exact abortRow_kept k s
  | persist k => exact persistRow_kept k s
  | setParam id v => exact setParameter_kept id v s
  | clearCounters => exact LawsSame.kept (by simp [LawsSame, takeUp, clearAllCounters])
  | ackAttention f => exact setAttn_kept s _
  | setAttentionMask e => exact setAttn_kept s _
  | _ => exact .refl s

theorem checkAndDispatch_kept (code : Byte) (args : List Byte) (prompt : Bool) (s : State) :
    LawsKept s (checkAndDispatch code args prompt s) := by
  unfold checkAndDispatch
  split
  · exact setPort_kept s _
  · split
    · exact setPort_kept s _
    · split
      · exact setPort_kept s _
      · split
        · exact setPort_kept s _
        · split
          · exact (takeUp_kept _ s).trans (setPort_kept _ _)
          · exact setPort_kept s _

theorem commandTransaction_kept (code : Byte) (args : List Byte) (tail : Fin 8) (prompt : Bool) (s : State) :
    LawsKept s (commandTransaction code args tail prompt s) := by
  have hshift : LawsKept s (shiftOut (commandOut args.length tail) s) := setPort_kept s _
  unfold commandTransaction
  dsimp only
  split
  · exact hshift.trans ((setPort_kept _ _).trans (checkAndDispatch_kept _ _ _ _))
  · exact hshift

theorem responseTransactionOf_kept (n : Nat) (tail : Fin 8) (s : State) : LawsKept s (responseTransactionOf n tail s) :=
  LawsSame.kept (by simp [LawsSame])

theorem clearTransaction_kept (args : List Byte) (tail : Fin 8) (s : State) : LawsKept s (clearTransaction args tail s) :=
  LawsSame.kept (by simp [LawsSame])

end Sys2Proof.Machine
end

section
/-! PROOFS. The laws of O55, command by command (O55). -/

namespace Sys2Proof.Machine

/-! ### The commands: load, gate and link -/

theorem execLoadRepairSlot_kept {s t : State} (h : execLoadRepairSlot s = .next t) : LawsKept s t := by
  obtain rfl := Host.Outcome.next.inj h
  split
  · split
    · exact (installRepair_kept _ _ s).trans (setLoadNext_kept _ _)
    · exact .refl s
  · exact .refl s

theorem execLoadBadSpareSlot_kept {s t : State} (h : execLoadBadSpareSlot s = .next t) : LawsKept s t := by
  obtain rfl := Host.Outcome.next.inj h
  split
  · split
    · exact (installBadSpare_kept _ s).trans (setLoadNext_kept _ _)
    · exact .refl s
  · exact .refl s

theorem setPhase_running_kept (s : State) : LawsKept s (s.setPhase .running) :=
  ⟨id, id, id, id, id, id, holderLaw_congr rfl rfl rfl, fun _ => rfl⟩

theorem execLoadCompletion_kept {s t : State} (h : execLoadCompletion s = .next t) : LawsKept s t := by
  obtain rfl := Host.Outcome.next.inj h
  split
  · refine LawsKept.trans ?_ ((beginRow_kept _).trans ((consumePending_kept _).trans (startPersist_kept _)))
    exact (setPort_kept s _).trans ((setPhase_running_kept _).trans ((setLoadNext_kept _ 64).trans (restartPace_kept _)))
  · exact .refl s

theorem setHold_kept (s : State) (v : Hold) : LawsKept s (s.setHold v) := LawsSame.kept (by simp [LawsSame])

theorem setQuiet_kept (s : State) (v : Quiet) : LawsKept s (s.setQuiet v) := LawsSame.kept (by simp [LawsSame])

theorem setLink_kept (s : State) (v : Link) : LawsKept s (s.setLink v) := LawsSame.kept (by simp [LawsSame])

theorem execHoldNAssertion_kept {s t : State} (h : execHoldNAssertion s = .next t) : LawsKept s t := by
  obtain rfl := Host.Outcome.next.inj h
  split
  · exact setHold_kept s _
  all_goals exact .refl s

theorem execHoldNDeassertion_kept {s t : State} (h : execHoldNDeassertion s = .next t) : LawsKept s t := by
  obtain rfl := Host.Outcome.next.inj h
  split
  · exact .refl s
  all_goals exact setHold_kept s _

theorem execHoldTimerExpiry_kept {s t : State} (h : execHoldTimerExpiry s = .next t) : LawsKept s t := by
  obtain rfl := Host.Outcome.next.inj h
  split
  · exact (setHold_kept s _).trans ((count_kept _ _).trans (raise_kept _ _))
  all_goals exact .refl s

theorem execDwellTimerExpiry_kept {s t : State} (h : execDwellTimerExpiry s = .next t) : LawsKept s t := by
  obtain rfl := Host.Outcome.next.inj h
  split
  · exact setQuiet_kept s _
  all_goals exact .refl s

theorem execPaceTimerExpiry_kept {s t : State} (h : execPaceTimerExpiry s = .next t) : LawsKept s t := by
  obtain rfl := Host.Outcome.next.inj h
  split
  · exact (earnCredit_kept s).trans (beginRow_kept _)
  · exact .refl s

theorem faultLink_kept (s : State) : LawsKept s (faultLink s) := (setLink_kept s _).trans (raise_kept _ _)

theorem execResetBegin_kept {s t : State} (h : execResetBegin s = .next t) : LawsKept s t := by
  obtain rfl := Host.Outcome.next.inj h
  split
  · exact setLink_kept s _
  all_goals exact (setLink_kept s _).trans (orphanAll_kept _)

theorem execResetEnd_kept {s t : State} (h : execResetEnd s = .next t) : LawsKept s t := by
  obtain rfl := Host.Outcome.next.inj h
  split
  · split
    · split
      · exact (setLink_kept s _).trans (setLinkOut_kept _ _)
      · exact setLink_kept s _
    · exact .refl s
  · exact faultLink_kept s
  · exact .refl s

theorem execBadFrame_kept (cause : BadFrameCause) {s t : State} (h : execBadFrame cause s = .next t) : LawsKept s t := by
  obtain rfl := Host.Outcome.next.inj h
  split
  · exact faultLink_kept s
  all_goals exact .refl s

/-! ### The commands: requests of the host -/

theorem tagHeld_iff {s : State} {t : Tag} : tagHeld s t = true ↔ ∃ o ∈ s.ops, o.tag = some t := by
  simp [tagHeld]

theorem arrive_kept {t : Tag} {taken : State → State} {s : State}
    (htaken : t ∉ s.ops.filterMap Op.tag → LawsKept s (taken s)) : LawsKept s (arrive t taken s) := by
  unfold arrive
  split
  · split
    · exact faultLink_kept s
    · next hfree =>
      refine (htaken ?_).trans (reportOccupancy_kept _)
      simpa [tagHeld_iff] using hfree
  all_goals exact .refl s

theorem writeNotice_tags (l : LineAddr) (s : State) :
    (writeNotice l s).ops.filterMap Op.tag = s.ops.filterMap Op.tag := by
  have htag (o : Op) : (if o.line = l then { o with openRead := o.openRead.map fun _ => true } else o).tag = o.tag := by
    split <;> rfl
  unfold writeNotice
  dsimp only
  split <;> simp [List.filterMap_map, htag]

theorem execRd_kept (t : Tag) (l : LineAddr) {s u : State} (h : execRd t l s = .next u) : LawsKept s u := by
  obtain rfl := Host.Outcome.next.inj h
  exact arrive_kept fun hfree => joinOrder_request_kept rfl hfree rfl

theorem execWr_kept (t : Tag) (l : LineAddr) (d : LineData) {s u : State} (h : execWr t l d s = .next u) :
    LawsKept s u := by
  obtain rfl := Host.Outcome.next.inj h
  exact arrive_kept fun hfree => (writeNotice_kept l s).trans
    (joinOrder_request_kept rfl (by rwa [writeNotice_tags]) rfl)

theorem execMwr_kept (t : Tag) (l : LineAddr) (d : LineData) (e : BitVec 64) {s u : State}
    (h : execMwr t l d e s = .next u) : LawsKept s u := by
  obtain rfl := Host.Outcome.next.inj h
  exact arrive_kept fun hfree => (writeNotice_kept l s).trans
    (joinOrder_request_kept rfl (by rwa [writeNotice_tags]) rfl)

theorem execRdIssue_kept (l : LineAddr) {s t : State} (h : execRdIssue l s = .next t) : LawsKept s t := by
  obtain rfl := Host.Outcome.next.inj h
  split
  · next o ho =>
    split
    · next hk => exact performRead_kept ho (by rw [hk.1]; rfl)
    · exact .refl s
  · exact .refl s

theorem execRdMediaReadComplete_kept (l : LineAddr) (damage : StoredLine) {s t : State}
    (h : execRdMediaReadComplete l damage s = .next t) : LawsKept s t := by
  obtain rfl := Host.Outcome.next.inj h
  split
  · next o ho =>
    have hhead := (completing_head ho).1
    split
    · next hk _ =>
      dsimp only
      split
      · exact reserve_kept l _ s
      · exact finishRead_kept _ hhead (by rw [hk]; rfl)
    · next hk _ => exact finishRead_kept _ hhead (by rw [hk]; rfl)
    · exact .refl s
  · exact .refl s

theorem execWrIssue_kept (l : LineAddr) {s t : State} (h : execWrIssue l s = .next t) : LawsKept s t := by
  obtain rfl := Host.Outcome.next.inj h
  split
  · split
    · exact performWrite_kept l _ s
    · exact .refl s
  · exact .refl s

theorem execWrWriteComplete_kept (l : LineAddr) {s t : State} (h : execWrWriteComplete l s = .next t) :
    LawsKept s t := by
  obtain rfl := Host.Outcome.next.inj h
  split
  · next o ho =>
    split
    · next hk _ => exact finishWrite_kept _ _ (completing_head ho).1 (by rw [hk]; rfl)
    · exact .refl s
  · exact .refl s

theorem execMwrReadHalfIssue_kept (l : LineAddr) {s t : State} (h : execMwrReadHalfIssue l s = .next t) :
    LawsKept s t := by
  obtain rfl := Host.Outcome.next.inj h
  split
  · next o ho =>
    split
    · next hk _ =>
      dsimp only
      split
      · exact keepPoison_kept ho (by rw [hk]; rfl)
      · exact issueRead_kept l _ _ s
    · exact .refl s
  · exact .refl s

theorem execMwrReadHalfComplete_kept (l : LineAddr) (damage : StoredLine) {s t : State}
    (h : execMwrReadHalfComplete l damage s = .next t) : LawsKept s t := by
  obtain rfl := Host.Outcome.next.inj h
  split
  · next o ho =>
    have hhead := (completing_head ho).1
    split
    · next hk _ =>
      dsimp only
      split
      · exact reserve_kept l _ s
      · exact finishReadHalf_kept _ _ _ hhead (by rw [hk]; rfl)
    · next hk _ => exact finishReadHalf_kept _ _ _ hhead (by rw [hk]; rfl)
    · exact .refl s
  · exact .refl s

theorem execMwrWriteHalfComplete_kept (l : LineAddr) {s t : State} (h : execMwrWriteHalfComplete l s = .next t) :
    LawsKept s t := by
  obtain rfl := Host.Outcome.next.inj h
  split
  · next o ho =>
    split
    · next hk _ => exact finishWrite_kept _ _ (completing_head ho).1 (by rw [hk]; rfl)
    · exact .refl s
  · exact .refl s

/-! ### The commands: background operations and migration steps -/

theorem execBackgroundGrant_kept {s t : State} (h : execBackgroundGrant s = .next t) : LawsKept s t := by
  obtain rfl := Host.Outcome.next.inj h
  split
  · next hfree =>
    split
    · exact issueFor_kept _ hfree.2
    · exact .refl s
  · exact .refl s

theorem execWritebackPerform_kept {s t : State} (h : execWritebackPerform s = .next t) : LawsKept s t := by
  obtain rfl := Host.Outcome.next.inj h
  split
  · split
    · split
      · exact issueWrite_kept _ _ _ s
      · exact .refl s
    · exact .refl s
  · exact .refl s

theorem execWritebackComplete_kept {s t : State} (h : execWritebackComplete s = .next t) : LawsKept s t := by
  obtain rfl := Host.Outcome.next.inj h
  split
  · next l hslot =>
    split
    · next o ho =>
      split
      · next hk _ =>
        refine (writeLine_kept l _ _ s).trans ((followMarked_kept l _ _ _).trans (freeSlot_leaveOrder_kept (o := o) ?_ ?_ ?_))
        · rw [headOp_congr (s := s) (by simp), (completing_head ho).1]
        · rw [hk]; rfl
        · exact ⟨.writeback l, by simp [hslot], by simp⟩
      · exact .refl s
    · exact .refl s
  · exact .refl s

theorem execVerifyReadPerform_kept {s t : State} (h : execVerifyReadPerform s = .next t) : LawsKept s t := by
  obtain rfl := Host.Outcome.next.inj h
  split
  · split
    · split
      · exact issueRead_kept _ _ _ s
      · exact .refl s
    · exact .refl s
  · exact .refl s

theorem execVerifyReadComplete_kept (damage : StoredLine) {s t : State}
    (h : execVerifyReadComplete damage s = .next t) : LawsKept s t := by
  obtain rfl := Host.Outcome.next.inj h
  split
  · next l hslot =>
    split
    · next o ho =>
      have hhead := (completing_head ho).1
      split
      · next hk _ =>
        dsimp only
        split
        · exact reserve_kept l _ s
        · exact finishVerify_kept _ hslot hhead hk
      · next hk _ => exact finishVerify_kept _ hslot hhead hk
      · exact .refl s
    · exact .refl s
  · exact .refl s

theorem execPatrolLineReadPerform_kept {s t : State} (h : execPatrolLineReadPerform s = .next t) : LawsKept s t := by
  obtain rfl := Host.Outcome.next.inj h
  split
  · split
    · split
      · exact issueRead_kept _ _ _ s
      · exact .refl s
    · exact .refl s
  · exact .refl s

theorem execPatrolLineReadComplete_kept (damage : StoredLine) {s t : State}
    (h : execPatrolLineReadComplete damage s = .next t) : LawsKept s t := by
  obtain rfl := Host.Outcome.next.inj h
  split
  · next l hslot =>
    split
    · next o ho =>
      split
      · next hk _ =>
        refine (handEvent_kept _ _ s).trans ((handWriteback_kept _ o.overtaken _).trans
          ((freeSlot_leaveOrder_kept (o := o) ?_ ?_ ?_).trans (nextLine_kept _)))
        · rw [headOp_congr (s := s) (by simp), (completing_head ho).1]
        · rw [hk]; rfl
        · exact ⟨.patrol l, by simp [hslot], by simp⟩
      · exact .refl s
    · exact .refl s
  · exact .refl s

/-- What `stepOp` finds: the step that stands, and its operation. -/
theorem stepOp_eq_some {s : State} {k : OpKind} {find : State → LineAddr → Option Op} {st : MigStep} {o : Op}
    (h : stepOp s k find = some (st, o)) : s.engine.step = some st ∧ find s st.line = some o ∧ o.kind = k := by
  unfold stepOp at h
  split at h
  · next st' hst =>
    obtain ⟨o', ho, he⟩ := Option.map_eq_some_iff.1 h
    cases he
    obtain ⟨hf, hk⟩ := Option.filter_eq_some_iff.1 ho
    exact ⟨hst, hf, by simpa using hk⟩
  · cases h

theorem execCopyReadPerform_kept {s t : State} (h : execCopyReadPerform s = .next t) : LawsKept s t := by
  obtain rfl := Host.Outcome.next.inj h
  split
  · split
    · exact issueRead_kept _ _ _ s
    · exact .refl s
  · exact .refl s

theorem execCopyReadComplete_kept (damage : StoredLine) {s t : State} (h : execCopyReadComplete damage s = .next t) :
    LawsKept s t := by
  obtain rfl := Host.Outcome.next.inj h
  split
  · next st o hop =>
    obtain ⟨hst, ho, hk⟩ := stepOp_eq_some hop
    split
    · refine (handEvent_kept _ .copy s).trans ((handMark_kept _ o.overtaken _).trans (afterCopyRead_kept _ (o := o) ?_ ?_ ?_))
      · simp [handEvent_step, hst]
      · rw [headOp_congr (s := s) (by simp), (completing_head ho).1]
      · rw [hk]; rfl
    · exact .refl s
  · exact .refl s

theorem execCopyWriteComplete_kept {s t : State} (h : execCopyWriteComplete s = .next t) : LawsKept s t := by
  obtain rfl := Host.Outcome.next.inj h
  split
  · next st o hop =>
    obtain ⟨hst, ho, hk⟩ := stepOp_eq_some hop
    split
    · next targets content n _ =>
      have hst' : (writeLine st.line targets content s).engine.step = some st := by simp [hst]
      have ho' : headOp (writeLine st.line targets content s) st.line = some o := (completing_head ho).1
      have hk' : o.kind.isBackground = true := by rw [hk]; rfl
      refine (writeLine_kept st.line targets content s).trans ?_
      dsimp only
      split
      · exact leaveOrder_endStep_kept hst' ho' hk'
      · exact leaveOrder_endColumn_kept _ _ hst' ho' hk'
    · exact .refl s
  · exact .refl s

theorem execCheckReadPerform_kept {s t : State} (h : execCheckReadPerform s = .next t) : LawsKept s t := by
  obtain rfl := Host.Outcome.next.inj h
  split
  · split
    · exact issueRead_kept _ _ _ s
    · exact .refl s
  · exact .refl s

theorem execCheckReadComplete_kept (damage : StoredLine) {s t : State} (h : execCheckReadComplete damage s = .next t) :
    LawsKept s t := by
  obtain rfl := Host.Outcome.next.inj h
  split
  · next st o hop =>
    obtain ⟨hst, ho, hk⟩ := stepOp_eq_some hop
    have hend : LawsKept s (endStep (leaveOrder st.line s)) :=
      leaveOrder_endStep_kept hst (completing_head ho).1 (by rw [hk]; rfl)
    split
    · dsimp only
      split
      · exact hend
      · exact hend.trans (judgeCheck_kept _ _ _)
    · exact .refl s
  · exact .refl s

theorem execPersistProgramComplete_kept (ok : Bool) {s t : State} (h : execPersistProgramComplete ok s = .next t) :
    LawsKept s t := by
  obtain rfl := Host.Outcome.next.inj h
  split
  · exact completeProgram_kept _ _ s
  · exact .refl s

/-! ### The commands: the management port -/

theorem execCommandTakeUp_kept {s t : State} (h : execCommandTakeUp s = .next t) : LawsKept s t := by
  obtain rfl := Host.Outcome.next.inj h
  split
  · next a _ =>
    have htake := (setPort_kept s { s.port with awaiting := none }).trans (takeUp_kept a.command _)
    dsimp only
    split
    · exact htake
    · exact htake.trans (setPort_kept _ _)
  · exact .refl s

/-- A command of the port is one of the three transactions (R179, R182). -/
theorem exec_transaction {c : Instr} {code : Byte} {args : List Byte} {tail : Fin 8} {prompt : Bool}
    (h : transaction c = some (code, args, tail, prompt)) (s : State) :
    exec c s = .next (responseTransactionOf args.length tail s) ∨ exec c s = .next (clearTransaction args tail s) ∨
      exec c s = .next (commandTransaction code args tail prompt s) := by
  unfold transaction at h
  split at h
  case h_1 =>
    cases h
    simp only [exec, execUnassignedCommand]
    split
    · exact .inl rfl
    · split
      · exact .inr (.inl rfl)
      · exact .inr (.inr rfl)
  case h_20 => cases h; exact .inr (.inl rfl)
  case h_21 => cases h
  all_goals cases h; exact .inr (.inr rfl)

theorem exec_transaction_kept {c : Instr} {code : Byte} {args : List Byte} {tail : Fin 8} {prompt : Bool} {s t : State}
    (hc : transaction c = some (code, args, tail, prompt)) (h : exec c s = .next t) : LawsKept s t := by
  rcases exec_transaction hc s with he | he | he <;> cases he.symm.trans h
  · exact responseTransactionOf_kept _ _ s
  · exact clearTransaction_kept _ _ s
  · exact commandTransaction_kept _ _ _ _ s

/-! ### Every step -/

/-- Every command but POWER_ON_RESET. -/
theorem exec_kept {c : Instr} (hc : ∀ lost held : Bool, c ≠ .powerOnReset lost held) {s t : State}
    (h : exec c s = .next t) : LawsKept s t := by
  cases c with
  | powerOnReset lost held => exact absurd rfl (hc lost held)
  | loadRepairSlot => exact execLoadRepairSlot_kept h
  | loadBadSpareSlot => exact execLoadBadSpareSlot_kept h
  | loadCompletion => exact execLoadCompletion_kept h
  | holdNAssertion => exact execHoldNAssertion_kept h
  | holdNDeassertion => exact execHoldNDeassertion_kept h
  | holdTimerExpiry => exact execHoldTimerExpiry_kept h
  | dwellTimerExpiry => exact execDwellTimerExpiry_kept h
  | paceTimerExpiry => exact execPaceTimerExpiry_kept h
  | resetBegin => exact execResetBegin_kept h
  | resetEnd => exact execResetEnd_kept h
  | badFrame cause => exact execBadFrame_kept cause h
  | rd tag line => exact execRd_kept tag line h
  | wr tag line data => exact execWr_kept tag line data h
  | mwr tag line data enables => exact execMwr_kept tag line data enables h
  | rdIssue line => exact execRdIssue_kept line h
  | rdMediaReadComplete line damage => exact execRdMediaReadComplete_kept line damage h
  | wrIssue line => exact execWrIssue_kept line h
  | wrWriteComplete line => exact execWrWriteComplete_kept line h
  | mwrReadHalfIssue line => exact execMwrReadHalfIssue_kept line h
  | mwrReadHalfComplete line damage => exact execMwrReadHalfComplete_kept line damage h
  | mwrWriteHalfComplete line => exact execMwrWriteHalfComplete_kept line h
  | backgroundGrant => exact execBackgroundGrant_kept h
  | writebackPerform => exact execWritebackPerform_kept h
  | writebackComplete => exact execWritebackComplete_kept h
  | verifyReadPerform => exact execVerifyReadPerform_kept h
  | verifyReadComplete damage => exact execVerifyReadComplete_kept damage h
  | patrolLineReadPerform => exact execPatrolLineReadPerform_kept h
  | patrolLineReadComplete damage => exact execPatrolLineReadComplete_kept damage h
  | copyReadPerform => exact execCopyReadPerform_kept h
  | copyReadComplete damage => exact execCopyReadComplete_kept damage h
  | copyWriteComplete => exact execCopyWriteComplete_kept h
  | checkReadPerform => exact execCheckReadPerform_kept h
  | checkReadComplete damage => exact execCheckReadComplete_kept damage h
  | persistProgramComplete ok => exact execPersistProgramComplete_kept ok h
  | responseTransaction n tail =>
    obtain rfl := Host.Outcome.next.inj h
    exact responseTransactionOf_kept n tail s
  | commandTakeUp => exact execCommandTakeUp_kept h
  | _ => exact exec_transaction_kept rfl h

/-- A step executes the command at the front of the queue, or idles. -/
theorem step_cases {s t : State} (h : step s = .next t) :
    (s.pending = [] ∧ t = s) ∨
      ∃ (c : Instr) (rest : List Instr), s.pending = c :: rest ∧ exec c (s.setPending rest) = .next t := by
  unfold step at h
  split at h
  · next hp => exact .inl ⟨hp, (Host.Outcome.next.inj h).symm⟩
  · next c rest hp => exact .inr ⟨c, rest, hp, h⟩

/-- After POWER_ON_RESET the queues, the line orders and the slot are empty (R168). -/
theorem powerOnReset_laws (lost held : Bool) {s t : State} (h : exec (.powerOnReset lost held) s = .next t) :
    TagsDistinct t ∧ WbQueueLaw t ∧ VerifyQueueLaw t ∧ CreditLaw t ∧ BadSpareLaw t ∧ (MediaLaw s → MediaLaw t) ∧
      HolderLaw t := by
  obtain rfl := Host.Outcome.next.inj h
  exact ⟨List.nodup_nil, ⟨Nat.zero_le _, List.nodup_nil⟩, ⟨Nat.zero_le _, List.nodup_nil⟩, Nat.zero_le _,
    ⟨Nat.zero_le _, List.nodup_nil⟩, mediaAfterReset_wf lost s, rfl, rfl⟩

/-- A step is a reset of the part, or it keeps the laws and the RUNNING phase. -/
theorem step_kept {s t : State} (h : step s = .next t) :
    LawsKept s t ∨ ∃ (lost held : Bool) (rest : List Instr), s.pending = .powerOnReset lost held :: rest ∧
      exec (.powerOnReset lost held) (s.setPending rest) = .next t := by
  obtain ⟨-, rfl⟩ | ⟨c, rest, hp, he⟩ := step_cases h
  · exact .inl (.refl t)
  · by_cases hc : ∃ lost held : Bool, c = .powerOnReset lost held
    · obtain ⟨lost, held, rfl⟩ := hc
      exact .inr ⟨lost, held, rest, hp, he⟩
    · have hpending : LawsKept s (s.setPending rest) := LawsSame.kept (by simp [LawsSame])
      exact .inl (hpending.trans (exec_kept (fun lost held e => hc ⟨lost, held, e⟩) he))

/-- Settles O55: every operation keeps each law, a command but for the reset is a chain of operations, and the reset leaves a
part that meets them. -/
theorem mediaAndQueuesStayLawful : Obligations.MediaAndQueuesStayLawful := by
  have key (s t : State) (h : step s = .next t) :
      ((TagsDistinct s → TagsDistinct t) ∧ (WbQueueLaw s → WbQueueLaw t) ∧ (VerifyQueueLaw s → VerifyQueueLaw t) ∧
        (CreditLaw s → CreditLaw t) ∧ (BadSpareLaw s → BadSpareLaw t)) ∧
      (MediaLaw s → MediaLaw t) ∧ (HolderLaw s → HolderLaw t) := by
    obtain hk | ⟨lost, held, rest, -, he⟩ := step_kept h
    · exact ⟨⟨hk.tags, hk.wbQueue, hk.verifyQueue, hk.credits, hk.badSpares⟩, hk.media, hk.holder⟩
    · obtain ⟨ht, hw, hv, hc, hb, hm, hh⟩ := powerOnReset_laws lost held he
      exact ⟨⟨fun _ => ht, fun _ => hw, fun _ => hv, fun _ => hc, fun _ => hb⟩, hm, fun _ => hh⟩
  refine ⟨fun s t h => (key s t h).1, fun s t hs h => (key s t h).2.1 hs, fun s t hs h => ?_⟩
  have ht := (key s t h).2.2 hs
  exact ⟨ht, slotLaw_of_holderLaw ht⟩

end Sys2Proof.Machine
end

section
/-! PROOFS. The LOADING part stays at rest until its load completes (O57). -/

namespace Sys2Proof.Machine

/-! ### The LOADING part at rest -/

/-- What LoadLaw says of the part while it is LOADING (R168). -/
structure Idle (s : State) : Prop where
  link : s.link.state = .down
  ops : s.ops = []
  slot : s.slot = none
  step : s.engine.step = none
  wbQueue : s.wbQueue = []
  verifyQueue : s.verifyQueue = []
  queue : s.queue = ⟨[], []⟩
  persist : s.persist = ⟨[], none⟩
  current : s.patrol.current = none
  paceTimer : s.patrol.paceTimer = none
  credits : s.patrol.credits = 0
  records : ∀ r ∈ s.table, r.state = .spared ∧ r.persistWanted = false
  awaiting : ∀ a : Awaiting, s.port.awaiting = some a → a.command = .status

theorem loadLaw_iff {s : State} : LoadLaw s ↔ (s.phase = .loading → Idle s) :=
  ⟨fun h hp => by
    obtain ⟨h1, h2, h3, h4, h5, h6, h7, h8, h9, h10, h11, h12, h13⟩ := h hp
    exact ⟨h1, h2, h3, h4, h5, h6, h7, h8, h9, h10, h11, h12, h13⟩,
  fun h hp => by
    obtain ⟨h1, h2, h3, h4, h5, h6, h7, h8, h9, h10, h11, h12, h13⟩ := h hp
    exact ⟨h1, h2, h3, h4, h5, h6, h7, h8, h9, h10, h11, h12, h13⟩⟩

section
variable {s t : State} (hs : Idle s)
include hs

/-- A change of the records that leaves what else `Idle` reads as it was. -/
theorem Idle.of_records (hr : ∀ r ∈ t.table, r.state = .spared ∧ r.persistWanted = false)
    (h : t.link.state = s.link.state ∧ t.ops = s.ops ∧ t.slot = s.slot ∧ t.engine = s.engine ∧ t.wbQueue = s.wbQueue ∧
      t.verifyQueue = s.verifyQueue ∧ t.queue = s.queue ∧ t.persist = s.persist ∧ t.patrol = s.patrol ∧ t.port = s.port) :
    Idle t := by
  obtain ⟨hl, ho, hslot, he, hw, hv, hq, hpe, hpa, hpo⟩ := h
  exact ⟨hl.trans hs.link, ho.trans hs.ops, hslot.trans hs.slot, by rw [he, hs.step], hw.trans hs.wbQueue,
    hv.trans hs.verifyQueue, hq.trans hs.queue, hpe.trans hs.persist, by rw [hpa, hs.current], by rw [hpa, hs.paceTimer],
    by rw [hpa, hs.credits], hr, by rw [hpo]; exact hs.awaiting⟩

/-- A change of the port that leaves no command but STATUS awaiting its take-up. -/
theorem Idle.setPort {p : Port} (hp : ∀ a : Awaiting, p.awaiting = some a → a.command = .status) : Idle (s.setPort p) :=
  ⟨hs.link, hs.ops, hs.slot, hs.step, hs.wbQueue, hs.verifyQueue, hs.queue, hs.persist, hs.current, hs.paceTimer,
    hs.credits, hs.records, hp⟩

theorem Idle.setAttn (a : Attention) : Idle (s.setAttn a) := hs.of_records hs.records (by simp)

theorem Idle.setHold (v : Hold) : Idle (s.setHold v) := hs.of_records hs.records (by simp)

theorem Idle.setLink {v : Link} (hv : v.state = .down) : Idle (s.setLink v) :=
  hs.of_records hs.records (by simp [hv, hs.link])

/-! ### With nothing in the line orders and the engines at rest, most commands do not take place -/

theorem Idle.headOp (l : LineAddr) : headOp s l = none := by simp [Machine.headOp, hs.ops]

theorem Idle.completing (l : LineAddr) : completing s l = none := by simp [Machine.completing, hs.headOp l]

theorem Idle.stepOp (k : OpKind) (find : State → LineAddr → Option Op) : stepOp s k find = none := by
  simp [Machine.stepOp, hs.step]

theorem Idle.arrive (t : Tag) (taken : State → State) : arrive t taken s = s := by simp [Machine.arrive, hs.link]

/-! ### The port in LOADING (R181) -/

theorem Idle.answer (a : Answer) (isReport : Bool) : Idle (answer a isReport s) := hs.setPort hs.awaiting

theorem Idle.discardAwaited : Idle (discardAwaited s) := by
  refine hs.setPort fun a ha => ?_
  obtain ⟨b, hb, rfl⟩ := Option.map_eq_some_iff.1 ha
  exact hs.awaiting b hb

/-- In LOADING only a STATUS passes the phase check. -/
theorem Idle.checkAndDispatch (code : Byte) (args : List Byte) (prompt : Bool) (hp : s.phase = .loading) :
    Idle (checkAndDispatch code args prompt s) := by
  unfold Machine.checkAndDispatch
  split
  · exact hs.answer _ _
  · next n parse htable =>
    split
    · exact hs.answer _ _
    · split
      · exact hs.answer _ _
      · next hbusy =>
        have hcode : code = statusCode := by
          by_contra hne
          simp [busyFor, hp, hne] at hbusy
        subst hcode
        cases htable
        dsimp only
        split
        · exact hs.answer _ _
        · refine hs.setPort fun a ha => ?_
          cases ha
          rfl

theorem Idle.commandTransaction (code : Byte) (args : List Byte) (tail : Fin 8) (prompt : Bool) (hp : s.phase = .loading) :
    Idle (commandTransaction code args tail prompt s) := by
  have hshift : Idle (shiftOut (commandOut args.length tail) s) := hs.setPort hs.awaiting
  unfold Machine.commandTransaction
  dsimp only
  split
  · exact hshift.discardAwaited.checkAndDispatch code args prompt (by simp [hp])
  · exact hshift

theorem Idle.responseTransactionOf (n : Nat) (tail : Fin 8) : Idle (responseTransactionOf n tail s) := by
  unfold Machine.responseTransactionOf
  dsimp only
  split
  · exact hs.setPort hs.awaiting
  · exact hs.setPort hs.awaiting

theorem Idle.clearTransaction (args : List Byte) (tail : Fin 8) (hp : s.phase = .loading) :
    Idle (clearTransaction args tail s) := by
  have hshift : Idle (shiftOut (commandOut args.length tail) s) := hs.setPort hs.awaiting
  unfold Machine.clearTransaction
  dsimp only
  split
  · split
    · exact hshift.discardAwaited.answer _ _
    · rw [if_pos (by simp [hp])]
      exact hshift.discardAwaited.answer _ _
  · exact hshift

/-- The STATUS that awaits its take-up is taken up (R183). -/
theorem Idle.commandTakeUp (h : execCommandTakeUp s = .next t) : Idle t := by
  obtain rfl := Host.Outcome.next.inj h
  split
  · next a ha =>
    have hfree : Idle (s.setPort { s.port with awaiting := none }) := hs.setPort fun _ h => by cases h
    rw [hs.awaiting a ha]
    dsimp only [takeUp, readStatus_]
    split
    · exact hfree
    · exact hfree.answer _ _
  · exact hs

theorem Idle.exec_transaction {c : Instr} {code : Byte} {args : List Byte} {tail : Fin 8} {prompt : Bool}
    (hp : s.phase = .loading) (hc : transaction c = some (code, args, tail, prompt)) (h : exec c s = .next t) : Idle t := by
  rcases Machine.exec_transaction hc s with he | he | he <;> cases he.symm.trans h
  · exact hs.responseTransactionOf _ _
  · exact hs.clearTransaction _ _ hp
  · exact hs.commandTransaction _ _ _ _ hp

end

/-! ### The load (R169, R170) -/

/-- Each record that the load leaves is SPARED on a home that is recorded (R69, R169). -/
theorem installRepair_records (k : RowKey) (i : SpareIdx) {s : State}
    (hs : ∀ r ∈ s.table, r.state = .spared ∧ r.persistWanted = false) :
    ∀ r ∈ (installRepair k i s).table, r.state = .spared ∧ r.persistWanted = false := by
  have hmove (t : State) (ht : t.table = s.table) (r : Record)
      (hr : r ∈ (updateRecord k (fun r => { r with homeSpare := some i }) t).table) :
      r.state = .spared ∧ r.persistWanted = false := by
    rw [updateRecord, State.setTable_table, ht] at hr
    obtain ⟨r', hr', rfl⟩ := List.mem_map.1 hr
    split <;> exact hs r' hr'
  unfold installRepair
  dsimp only
  split
  · exact hs
  · split
    · exact hs
    · split
      · split
        · exact hs
        · exact hmove _ (by split <;> simp)
      · split
        · next h =>
          obtain ⟨n, kept, hroom, rfl, rfl⟩ := createRecord_spec h
          simp only [allocate_frame, State.setTable_table, List.mem_append, List.mem_singleton]
          rintro r (hr | rfl)
          · exact hs r (makeRoom_subset hroom r hr)
          · exact ⟨rfl, rfl⟩
        · exact hs

theorem Idle.execLoadRepairSlot {s t : State} (hs : Idle s) (h : execLoadRepairSlot s = .next t) : Idle t := by
  obtain rfl := Host.Outcome.next.inj h
  split
  · split
    · exact hs.of_records (installRepair_records _ _ hs.records) (by simp)
    · exact hs
  · exact hs

theorem Idle.execLoadBadSpareSlot {s t : State} (hs : Idle s) (h : execLoadBadSpareSlot s = .next t) : Idle t := by
  obtain rfl := Host.Outcome.next.inj h
  split
  · split
    · exact hs.of_records (by simpa using hs.records) (by simp)
    · exact hs
  · exact hs

/-- After the load the part is RUNNING (R168). -/
theorem loadLaw_loadCompletion {s t : State} (hs : Idle s) (h : execLoadCompletion s = .next t) : LoadLaw t := by
  obtain rfl := Host.Outcome.next.inj h
  split
  · intro hp
    simp at hp
  · exact loadLaw_iff.2 fun _ => hs

/-! ### Every step -/

theorem loadLaw_powerOnReset (lost held : Bool) {s t : State} (h : exec (.powerOnReset lost held) s = .next t) :
    LoadLaw t := by
  obtain rfl := Host.Outcome.next.inj h
  exact loadLaw_iff.2 fun _ => ⟨rfl, rfl, rfl, rfl, rfl, rfl, rfl, rfl, rfl, rfl, rfl,
    fun _ h => (List.not_mem_nil h).elim, fun _ h => by cases h⟩

/-- A command that leaves the state as it is. -/
theorem Idle.of_unchanged {s t : State} {c : Instr} (hs : Idle s) (he : exec c s = .next s) (h : exec c s = .next t) :
    LoadLaw t := by
  cases he.symm.trans h
  exact loadLaw_iff.2 fun _ => hs

theorem exec_loading {c : Instr} {s t : State} (hp : s.phase = .loading) (hs : Idle s) (h : exec c s = .next t) :
    LoadLaw t := by
  have hidle (ht : Idle t) : LoadLaw t := loadLaw_iff.2 fun _ => ht
  cases c with
  | powerOnReset lost held => exact loadLaw_powerOnReset lost held h
  | loadRepairSlot => exact hidle (hs.execLoadRepairSlot h)
  | loadBadSpareSlot => exact hidle (hs.execLoadBadSpareSlot h)
  | loadCompletion => exact loadLaw_loadCompletion hs h
  | holdNAssertion =>
    obtain rfl := Host.Outcome.next.inj h
    refine hidle ?_
    split
    · exact hs.setHold _
    all_goals exact hs
  | holdNDeassertion =>
    obtain rfl := Host.Outcome.next.inj h
    refine hidle ?_
    split
    · exact hs
    all_goals exact hs.setHold _
  | holdTimerExpiry =>
    obtain rfl := Host.Outcome.next.inj h
    refine hidle ?_
    split
    · exact hs.of_records (by simpa using hs.records) (by simp)
    all_goals exact hs
  | dwellTimerExpiry =>
    obtain rfl := Host.Outcome.next.inj h
    refine hidle ?_
    split
    · exact hs.of_records hs.records (by simp)
    all_goals exact hs
  | paceTimerExpiry => exact hs.of_unchanged (by simp only [exec, execPaceTimerExpiry, hs.paceTimer]) h
  | resetBegin =>
    simp only [exec, execResetBegin, hs.link] at h
    obtain rfl := Host.Outcome.next.inj h
    exact hidle (hs.setLink rfl)
  | resetEnd =>
    simp only [exec, execResetEnd, hs.link, hp] at h
    obtain rfl := Host.Outcome.next.inj h
    refine hidle ?_
    split
    · exact hs.setLink rfl
    · exact hs
  | badFrame cause => exact hs.of_unchanged (by simp only [exec, execBadFrame, hs.link]) h
  | rd tag line => exact hs.of_unchanged (by simp only [exec, execRd, hs.arrive]) h
  | wr tag line data => exact hs.of_unchanged (by simp only [exec, execWr, hs.arrive]) h
  | mwr tag line data enables => exact hs.of_unchanged (by simp only [exec, execMwr, hs.arrive]) h
  | rdIssue line => exact hs.of_unchanged (by simp only [exec, execRdIssue, hs.headOp]) h
  | rdMediaReadComplete line damage =>
    exact hs.of_unchanged (by simp only [exec, execRdMediaReadComplete, hs.completing]) h
  | wrIssue line => exact hs.of_unchanged (by simp only [exec, execWrIssue, hs.headOp]) h
  | wrWriteComplete line => exact hs.of_unchanged (by simp only [exec, execWrWriteComplete, hs.completing]) h
  | mwrReadHalfIssue line => exact hs.of_unchanged (by simp only [exec, execMwrReadHalfIssue, hs.headOp]) h
  | mwrReadHalfComplete line damage =>
    exact hs.of_unchanged (by simp only [exec, execMwrReadHalfComplete, hs.completing]) h
  | mwrWriteHalfComplete line => exact hs.of_unchanged (by simp only [exec, execMwrWriteHalfComplete, hs.completing]) h
  | backgroundGrant => exact hs.of_unchanged (by simp [exec, execBackgroundGrant, hp]) h
  | writebackPerform => exact hs.of_unchanged (by simp only [exec, execWritebackPerform, hs.slot]) h
  | writebackComplete => exact hs.of_unchanged (by simp only [exec, execWritebackComplete, hs.slot]) h
  | verifyReadPerform => exact hs.of_unchanged (by simp only [exec, execVerifyReadPerform, hs.slot]) h
  | verifyReadComplete damage => exact hs.of_unchanged (by simp only [exec, execVerifyReadComplete, hs.slot]) h
  | patrolLineReadPerform => exact hs.of_unchanged (by simp only [exec, execPatrolLineReadPerform, hs.slot]) h
  | patrolLineReadComplete damage => exact hs.of_unchanged (by simp only [exec, execPatrolLineReadComplete, hs.slot]) h
  | copyReadPerform => exact hs.of_unchanged (by simp only [exec, execCopyReadPerform, hs.stepOp]) h
  | copyReadComplete damage => exact hs.of_unchanged (by simp only [exec, execCopyReadComplete, hs.stepOp]) h
  | copyWriteComplete => exact hs.of_unchanged (by simp only [exec, execCopyWriteComplete, hs.stepOp]) h
  | checkReadPerform => exact hs.of_unchanged (by simp only [exec, execCheckReadPerform, hs.stepOp]) h
  | checkReadComplete damage => exact hs.of_unchanged (by simp only [exec, execCheckReadComplete, hs.stepOp]) h
  | persistProgramComplete ok => exact hs.of_unchanged (by simp only [exec, execPersistProgramComplete, hs.persist]) h
  | responseTransaction n tail =>
    obtain rfl := Host.Outcome.next.inj h
    exact hidle (hs.responseTransactionOf n tail)
  | commandTakeUp => exact hidle (hs.commandTakeUp h)
  | _ => exact hidle (hs.exec_transaction hp rfl h)

/-- Settles O57: a RUNNING part stays RUNNING or is reset; in LOADING the part at rest stays at rest until the load completes. -/
theorem loadingStaysIdle : Obligations.LoadingStaysIdle := by
  intro s t hs h
  by_cases hp : s.phase = .loading
  · obtain ⟨-, rfl⟩ | ⟨c, rest, -, he⟩ := step_cases h
    · exact hs
    · have hidle : Idle s := loadLaw_iff.1 hs hp
      exact exec_loading (s := s.setPending rest) hp (hidle.of_records hidle.records (by simp)) he
  · have hrun : s.phase = .running := by
      cases hphase : s.phase with
      | loading => exact absurd hphase hp
      | running => rfl
    obtain hk | ⟨lost, held, rest, -, he⟩ := step_kept h
    · exact loadLaw_iff.2 fun hl => by simp [hk.running hrun] at hl
    · exact loadLaw_powerOnReset lost held he

end Sys2Proof.Machine
end

section
/-! PROOFS. The arrival of frames: link resets, the entry into FAULT, discarded frames, and requests taken (O9 to O12). -/

namespace Sys2Proof.Machine

/-! ### Link resets (R32 to R34) -/

/-- Orphans hold no tag, so that none is outstanding (R34, R52). -/
theorem orphanAll_eq (s : State) : orphanAll s = { s with
    ops := s.ops.map fun o => { o with tag := none }
    quiet := s.quiet.report s.params 0 } := by
  have hocc : occupancy (s.setOps (s.ops.map fun o => { o with tag := none })) = 0 := by
    simp [occupancy, List.countP_eq_zero]
  rw [orphanAll, reportOccupancy, hocc]
  rfl

theorem resetBegin_down {s : State} (h : s.link.state = .down) :
    exec .resetBegin s = .next { s with link := ⟨.down, true, false⟩ } := by
  simp only [exec, execResetBegin, h]
  rfl

theorem resetBegin_not_down {s : State} (h : s.link.state ≠ .down) :
    exec .resetBegin s = .next (orphanAll (beginLinkReset s)) := by
  cases hl : s.link.state with
  | down => exact absurd hl h
  | up => simp only [exec, execResetBegin, hl]
  | fault => simp only [exec, execResetBegin, hl]

theorem resetEnd_running {s : State} (h : s.link.state = .down) (hr : s.link.resetInProgress = true)
    (hp : s.phase = .running) :
    exec .resetEnd s = .next ((s.setLink ⟨.up, false, false⟩).setLinkOut (s.linkOut ++ [.ready])) := by
  simp only [exec, execResetEnd, h, hr, hp, if_true]

theorem resetEnd_loading {s : State} (h : s.link.state = .down) (hr : s.link.resetInProgress = true)
    (hp : s.phase = .loading) : exec .resetEnd s = .next (s.setLink ⟨.down, false, true⟩) := by
  simp only [exec, execResetEnd, h, hr, hp, if_true]

/-- Settles O9: the link's state and the phase choose the branch. -/
theorem linkResetFrames : Obligations.LinkResetFrames := by
  refine ⟨fun s h => resetBegin_down h, fun s h => ?_, fun s h hr hp => resetEnd_running h hr hp,
    fun s h hr hp => resetEnd_loading h hr hp⟩
  rw [resetBegin_not_down h, orphanAll_eq]
  rfl

/-! ### From UP to FAULT, and what is discarded (R30, R37 to R39) -/

theorem faultLink_eq (s : State) : faultLink s = { s with
    link := { s.link with state := .fault }
    attn := { s.attn with flags := s.attn.flags ||| BitVec.twoPow 10 9 } } := rfl

theorem arrive_up {s : State} (h : s.link.state = .up) (t : Tag) (taken : State → State) :
    arrive t taken s = if tagHeld s t then faultLink s else reportOccupancy (taken s) := by
  simp only [arrive, h]

theorem arrive_not_up {s : State} (h : s.link.state ≠ .up) (t : Tag) (taken : State → State) : arrive t taken s = s := by
  cases hl : s.link.state with
  | up => exact absurd hl h
  | down => simp only [arrive, hl]
  | fault => simp only [arrive, hl]

theorem badFrame_eq (cause : BadFrameCause) (s : State) :
    exec (.badFrame cause) s = .next (if s.link.state = .up then faultLink s else s) := by
  cases hl : s.link.state <;> simp [exec, execBadFrame, hl]

/-- What is taken of a request whose tag is free (R38, R42, R102). -/
def requestTaken : Instr → Option (Tag × (State → State))
  | .rd t l => some (t, joinOrder ⟨l, .rd, some t, .waiting, some false⟩)
  | .wr t l d => some (t, fun s => joinOrder ⟨l, .wr d, some t, .waiting, none⟩ (writeNotice l s))
  | .mwr t l d e => some (t, fun s => joinOrder ⟨l, .mwr d e, some t, .waiting, some false⟩ (writeNotice l s))
  | _ => none

theorem exec_request {c : Instr} {t : Tag} {taken : State → State} (h : requestTaken c = some (t, taken)) (s : State) :
    exec c s = .next (arrive t taken s) := by
  unfold requestTaken at h
  split at h <;> cases h <;> rfl

theorem exec_request_fault {c : Instr} {t : Tag} {taken : State → State} (h : requestTaken c = some (t, taken)) {s : State}
    (hup : s.link.state = .up) (ht : ∃ o ∈ s.ops, o.tag = some t) : exec c s = .next (faultLink s) := by
  rw [exec_request h, arrive_up hup, if_pos (tagHeld_iff.2 ht)]

theorem exec_request_taken {c : Instr} {t : Tag} {taken : State → State} (h : requestTaken c = some (t, taken)) {s : State}
    (hup : s.link.state = .up) (ht : ∀ o ∈ s.ops, o.tag ≠ some t) : exec c s = .next (reportOccupancy (taken s)) := by
  rw [exec_request h, arrive_up hup, if_neg]
  rw [tagHeld_iff]
  rintro ⟨o, ho, he⟩
  exact ht o ho he

theorem exec_request_discarded {c : Instr} {t : Tag} {taken : State → State} (h : requestTaken c = some (t, taken))
    {s : State} (hup : s.link.state ≠ .up) : exec c s = .next s := by
  rw [exec_request h, arrive_not_up hup]

/-- Settles O10: each of the causes sends the link to FAULT. -/
theorem linkFaultEntry : Obligations.LinkFaultEntry := by
  rintro s c hup (rfl | ⟨cause, -, rfl⟩ | ⟨t, ht, hc⟩) <;> rw [← faultLink_eq]
  · simp only [exec, execResetEnd, hup]
  · rw [badFrame_eq, if_pos hup]
  · rcases hc with ⟨l, rfl⟩ | ⟨l, d, rfl⟩ | ⟨l, d, e, rfl⟩ <;> exact exec_request_fault rfl hup ht

/-- Settles O11: outside UP no frame but RESET_BEGIN and a RESET_END in progress has an effect. -/
theorem framesDiscarded : Obligations.FramesDiscarded := by
  refine ⟨?_, ?_⟩
  · rintro s c hup (⟨cause, -, rfl⟩ | ⟨t, l, rfl⟩ | ⟨t, l, d, rfl⟩ | ⟨t, l, d, e, rfl⟩)
    · rw [badFrame_eq, if_neg hup]
    all_goals exact exec_request_discarded rfl hup
  · rintro s (hf | ⟨hd, hr⟩)
    · simp only [exec, execResetEnd, hf]
    · simp [exec, execResetEnd, hd, hr]

/-! ### Requests taken (R38, R40, R42, R102, R103) -/

/-- A request that joins raises the occupancy by one, and it is reported (R52). -/
theorem reportOccupancy_joinOrder {s u : State} {o : Op} {t : Tag} (ht : o.tag = some t) (hq : u.quiet = s.quiet)
    (hp : u.params = s.params) (hocc : occupancy u = occupancy s) :
    reportOccupancy (joinOrder o u) =
      { u with ops := u.ops ++ [o], quiet := s.quiet.report s.params (occupancy s + 1) } := by
  have hone : occupancy (joinOrder o u) = occupancy s + 1 := by
    rw [← hocc]
    simp [occupancy, joinOrder, ht]
  rw [reportOccupancy, hone]
  simp [joinOrder, State.setOps, State.setQuiet, hq, hp]

/-- A write notice: the line's open reads are overtaken, its writeback entry is removed and counted (R42, R103). -/
theorem writeNotice_eq (l : LineAddr) (s : State) : writeNotice l s = { s with
    ops := s.ops.map fun o => if o.line = l then { o with openRead := o.openRead.map fun _ => true } else o
    wbQueue := s.wbQueue.filter fun e => e.line != l
    counters := { s.counters with wbSuperseded :=
      if (∃ e ∈ s.wbQueue, e.line = l) then min (s.counters.wbSuperseded + 1) 4294967295 else s.counters.wbSuperseded } } := by
  unfold writeNotice
  dsimp only
  split
  · next e he =>
    have hin : ∃ e ∈ s.wbQueue, e.line = l := ⟨e, List.mem_of_find?_eq_some he, by simpa using List.find?_some he⟩
    rw [if_pos hin]
    rfl
  · next hnone =>
    have hout : ∀ e ∈ s.wbQueue, e.line ≠ l := by simpa [wbEntry] using hnone
    rw [if_neg (by simpa using hout), List.filter_eq_self.2 (by simpa using hout)]
    rfl

theorem occupancy_writeNotice (l : LineAddr) (s : State) : occupancy (writeNotice l s) = occupancy s := by
  have htag (o : Op) : (if o.line = l then { o with openRead := o.openRead.map fun _ => true } else o).tag = o.tag := by
    split <;> rfl
  rw [occupancy, occupancy, writeNotice_eq, List.countP_map]
  simp only [Function.comp_def, htag]

/-- Settles O12: a request joins its line's order; a write's notice goes ahead of it. -/
theorem requestsTaken : Obligations.RequestsTaken := by
  refine ⟨fun s t l hup ht => ?_, fun s t l k c entry hup ht hc => ?_⟩
  · rw [exec_request_taken rfl hup ht, reportOccupancy_joinOrder rfl rfl rfl rfl]
  · have htaken : requestTaken c = some (t, fun s => joinOrder ⟨l, k, some t, .waiting, entry⟩ (writeNotice l s)) := by
      rcases hc with ⟨d, rfl, rfl, rfl⟩ | ⟨d, e, rfl, rfl, rfl⟩ <;> rfl
    rw [exec_request_taken htaken hup ht,
      reportOccupancy_joinOrder rfl (by simp) (by simp) (occupancy_writeNotice l s), writeNotice_eq]

end Sys2Proof.Machine
end

section
/-! PROOFS. The load completion and the state after reset (O43, O54). -/

namespace Sys2Proof.Machine

/-! ### The load completion (R168) -/

theorem nextValid_none {s : State} (h : ∀ m : Fin 64, s.loadNext ≤ m.val → s.store[m] = .empty ∨ s.store[m] = .burned) :
    nextValid s = none := by
  refine List.findSome?_eq_none_iff.2 fun n _ => ?_
  split
  · next hn => rcases h n hn with he | he <;> simp [he, StoreSlot.item?]
  · rfl

/-- An engine without work takes up none (R172). -/
theorem startPersist_no_work {s : State} (hb : s.persist.badSpares = []) (ht : ∀ r ∈ s.table, r.persistWanted = false) :
    startPersist s = s := by
  have hnone : chooseItem s = none := chooseItem_of_nextWork (.inr (.inr ⟨hb, ht, rfl⟩))
  unfold startPersist
  rw [hnone]
  exact ite_self s

/-- Settles O43: without a credit no row patrol begins, and without work no program. -/
theorem loadCompletesIntoRunning : Obligations.LoadCompletesIntoRunning := by
  intro s hp hslots hc hb hw
  have hfire : s.phase = .loading ∧ nextValid s = none := ⟨hp, nextValid_none hslots⟩
  simp only [exec, execLoadCompletion, if_pos hfire]
  rw [beginRow_no_credit (by simp [restartPace, hc]), startPersist_no_work (by simp [hb]) (by simpa using hw)]
  unfold consumePending
  cases hpend : s.link.completionPending <;>
    simp [restartPace, State.setPort, State.setPhase, State.setLoadNext, State.setPatrol, State.setLink, State.setLinkOut, hpend]

/-! ### The state after reset -/

theorem spareState_nil (p : BankPos) (i : SpareIdx) : spareState [] p i = .free := rfl

/-- Settles O54: in State.reset no record, operation, entry, spare or program stands that a law could speak of. -/
theorem resetMeetsLaws : Obligations.ResetMeetsLaws := by
  have hload : LoadLaw State.reset := loadLaw_iff.2 fun _ => ⟨rfl, rfl, rfl, rfl, rfl, rfl, rfl, rfl, rfl, rfl, rfl,
    fun _ h => (List.not_mem_nil h).elim, fun _ h => by cases h⟩
  have hstore : StoreLaw State.reset :=
    ⟨fun n m _ _ => by simp [State.reset], fun p h => by cases h⟩
  have hspare : SpareLaw State.reset :=
    ⟨fun _ h => (List.not_mem_nil h).elim, fun _ h => (List.not_mem_nil h).elim, fun p i h => by
      rw [show spareState State.reset.spares p i = .free from spareState_nil p i] at h
      cases h⟩
  have hqueue : QueueLaw State.reset := ⟨List.nodup_nil, fun _ h => (List.not_mem_nil h).elim,
    fun _ h => (List.not_mem_nil h).elim, fun _ h => (List.not_mem_nil h).elim⟩
  have htable : TableLaw State.reset := ⟨List.nodup_nil, List.nodup_nil⟩
  have hholder : HolderLaw State.reset := ⟨rfl, rfl⟩
  exact ⟨reset_media_wf, List.nodup_nil, ⟨Nat.zero_le _, List.nodup_nil⟩, ⟨Nat.zero_le _, List.nodup_nil⟩, Nat.zero_le _,
    ⟨Nat.zero_le _, List.nodup_nil⟩, htable, fun _ h => (List.not_mem_nil h).elim, hload, hstore,
    ⟨htable, fun _ h => (List.not_mem_nil h).elim, Nat.zero_le _, (fun _ h => by cases h), hqueue, hspare,
      hload⟩,
    slotLaw_of_holderLaw hholder, hholder⟩

end Sys2Proof.Machine
end

section
/-! PROOFS. The issue and the completion of a host read (O13, O14). -/

namespace Sys2Proof.Machine

/-! ### How a read ends (R43, R44, R47, R51) -/

theorem listsColumn_iff {r : Option Record} {c : Column} :
    listsColumn r c = true ↔ ∃ r' : Record, r = some r' ∧ c ∈ r'.poison := by
  cases r <;> simp [listsColumn]

/-- A read whose column is listed ends POISONED with zeros, whatever was found (R47). -/
theorem completeRead_listed {s : State} {l : LineAddr} {o : Op} (status : ReadStatus) (data : LineData)
    (ho : headOp s l = some o) (hl : listsColumn (lineRecord s l) (lineColumn l) = true) :
    completeRead l o status data s = ended l o.tag (fun t => .rret t .poisoned 0) s := by
  simp only [completeRead, hl, if_true]
  exact finishRequest_ended _ ho

/-- A read whose column is not listed ends with the status found. -/
theorem completeRead_unlisted {s : State} {l : LineAddr} {o : Op} (status : ReadStatus) (data : LineData)
    (ho : headOp s l = some o) (hl : listsColumn (lineRecord s l) (lineColumn l) = false) :
    completeRead l o status data s =
      ended l o.tag (fun t => .rret t status (if status = .poisoned then 0 else data)) s := by
  simp only [completeRead, hl]
  exact finishRequest_ended _ ho

/-- A read that has found poison ends POISONED with zeros, listed or not. -/
theorem completeRead_poisoned {s : State} {l : LineAddr} {o : Op} (data : LineData) (ho : headOp s l = some o) :
    completeRead l o .poisoned data s = ended l o.tag (fun t => .rret t .poisoned 0) s := by
  cases hl : listsColumn (lineRecord s l) (lineColumn l) with
  | true => exact completeRead_listed _ _ ho hl
  | false => simpa using completeRead_unlisted .poisoned data ho hl

/-- The state with one more POISONED return counted (R46). -/
theorem count_poisonReads (s : State) : count .poisonReads s =
    { s with counters := { s.counters with poisonReads := min (s.counters.poisonReads + 1) 4294967295 } } := rfl

/-! ### The issue of a read (R43) -/

section
variable {s : State} {l : LineAddr} {o : Op}

theorem rdIssue_eq (ho : headOp s l = some o) (hk : o.kind = .rd) (hst : o.stage = .waiting) :
    exec (.rdIssue l) s = .next (performRead l o s) := by
  simp only [exec, execRdIssue, ho, hk, hst, and_self, if_true]

theorem performRead_listed (ho : headOp s l = some o) (hl : listsColumn (lineRecord s l) (lineColumn l) = true) :
    performRead l o s = ended l o.tag (fun t => .rret t .poisoned 0) (count .poisonReads s) := by
  simp only [performRead, hl, if_true]
  exact completeRead_poisoned 0 ho

theorem performRead_data {d : LineData} (ho : headOp s l = some o)
    (hl : listsColumn (lineRecord s l) (lineColumn l) = false) (hw : wbEntry s l = some ⟨l, .data d⟩) :
    performRead l o s = ended l o.tag (fun t => .rret t .clean d) s := by
  simp only [performRead, hl, hw, Option.map_some]
  exact completeRead_unlisted .clean d ho hl

theorem performRead_mark (ho : headOp s l = some o)
    (hl : listsColumn (lineRecord s l) (lineColumn l) = false) (hw : wbEntry s l = some ⟨l, .mark⟩) :
    performRead l o s = ended l o.tag (fun t => .rret t .poisoned 0) (count .poisonReads s) := by
  simp only [performRead, hl, hw, Option.map_some]
  exact completeRead_poisoned 0 ho

theorem performRead_media (hl : listsColumn (lineRecord s l) (lineColumn l) = false) (hw : wbEntry s l = none) :
    performRead l o s = { s with
      ops := stagedOps s l (.reading (readTarget (lineRecord s l) (lineColumn l)).1
        (readTarget (lineRecord s l) (lineColumn l)).2 s.stamps)
      stamps := s.stamps + 1 } := by
  simp only [performRead, hl, hw, Option.map_none]
  rfl

end

/-- Settles O13: the poison list, then the writeback entry, then the media. -/
theorem readIssued : Obligations.ReadIssued := by
  intro s l o t ho hk hst ht
  rw [rdIssue_eq ho hk hst]
  refine ⟨fun hl => ?_, fun hl => ⟨fun d hw => ?_, fun hw => ?_, fun hw => ?_⟩⟩
  · rw [performRead_listed ho hl, ht, count_poisonReads]
    rfl
  · rw [performRead_data ho hl hw, ht]
    rfl
  · rw [performRead_mark ho hl hw, ht, count_poisonReads]
    rfl
  · rw [performRead_media hl hw]

/-! ### What an event leaves of the poison list and of the counters -/

/-- A correction adds nothing to a poison list, and a record that it creates lists no column (R62, R85). -/
theorem receiveEvent_correction_listsColumn {l : LineAddr} {g : Origin} {cell : Cell} {s : State} {c : Column}
    (h : listsColumn (lineRecord s l) c = false) :
    listsColumn (lineRecord (receiveEvent ⟨l, g, .correction cell⟩ s) l) c = false := by
  have hpoison : IgnoresProgress Record.poison := fun _ _ _ _ _ => rfl
  have hlist (r : Option Record) (p : List Column) (hr : r.map Record.poison = some p) : listsColumn r c = p.contains c := by
    obtain ⟨r', rfl, rfl⟩ := Option.map_eq_some_iff.1 hr
    rfl
  cases hr : lineRecord s l with
  | some r =>
    rw [hlist _ _ (receiveEvent_scored hpoison ⟨l, g, .correction cell⟩ r s hr)]
    rw [hr] at h
    exact h
  | none =>
    cases hm : makeRoom s.table with
    | some room =>
      rw [hlist _ _ (receiveEvent_created hpoison ⟨l, g, .correction cell⟩ s hr hm)]
      rfl
    | none =>
      rw [receiveEvent_untracked _ s hr hm, lineRecord_congr (t := s) (by simp), hr]
      rfl

theorem requestVerify_counters (l : LineAddr) (s : State) :
    (requestVerify l s).counters = s.counters ∨ (requestVerify l s).counters = s.counters.bump .verifyDropped := by
  unfold requestVerify
  (repeat' split) <;> simp [count]

/-- What a verify request makes of the queue depends on the queue alone. -/
theorem requestVerify_verifyQueue {s u : State} (h : s.verifyQueue = u.verifyQueue) (l : LineAddr) :
    (requestVerify l s).verifyQueue = (requestVerify l u).verifyQueue := by
  unfold requestVerify
  rw [h]
  (repeat' split) <;> simp [h]

/-- A correction met by the host counts one host correction (R91). -/
theorem receiveEvent_hostCorrected {ev : ErrorEvent} (s : State) {cell : Cell} (hk : ev.kind = .correction cell)
    (hg : ev.origin = .hostRead ∨ ev.origin = .maskedWrite) :
    (receiveEvent ev s).counters.hostCorrected = min (s.counters.hostCorrected + 1) 4294967295 := by
  have hcount : countEvent ev s = count .hostCorrected s := by
    rcases hg with hg | hg <;> simp only [countEvent, hk, hg]
  rcases receiveEvent_counters ev s with h | h <;> rw [h, hcount] <;> rfl

/-- A writeback request changes the queue and the counters. -/
theorem requestWriteback_eq (l : LineAddr) (c : LineContent) (b : Bool) (s : State) : requestWriteback l c b s =
    { s with wbQueue := (requestWriteback l c b s).wbQueue, counters := (requestWriteback l c b s).counters } := by
  unfold requestWriteback
  (repeat' split) <;> rfl

/-- A verify request changes the queue and the counters. -/
theorem requestVerify_eq (l : LineAddr) (s : State) : requestVerify l s =
    { s with verifyQueue := (requestVerify l s).verifyQueue, counters := (requestVerify l s).counters } := by
  unfold requestVerify
  (repeat' split) <;> rfl

/-! ### The completion of a read (R44, R46) -/

/-- The read of the place `p` by which an operation comes to its end: a second read, or a first that is not served again. -/
def FinalRead (s : State) (l : LineAddr) (o : Op) (p : Place) (damage : StoredLine) : Prop :=
  (∃ n, o.stage = .rereading p n) ∨
    ∃ via n, o.stage = .reading p via n ∧ mustReserve s l p via (readLine s l p damage) = false

theorem rdMediaReadComplete_final {s : State} {l : LineAddr} {damage : StoredLine} {o : Op} {p : Place}
    (ho : completing s l = some o) (hk : o.kind = .rd) (hst : FinalRead s l o p damage) :
    exec (.rdMediaReadComplete l damage) s = .next (finishRead l o (readLine s l p damage) s) := by
  rcases hst with ⟨n, hst⟩ | ⟨via, n, hst, hm⟩
  · simp only [exec, execRdMediaReadComplete, ho, hk, hst]
  · simp only [exec, execRdMediaReadComplete, ho, hk, hst, hm]
    rfl

section
variable {s : State} {l : LineAddr} {o : Op} {d : Decode}

theorem handVerify_other {d : Decode} (s : State) (h : d.outcome ≠ .corrected) : handVerify d s = s := by
  unfold handVerify
  split
  · exact absurd ‹_› h
  all_goals rfl

theorem handVerify_corrected (s : State) (h : d.outcome = .corrected) : handVerify d s = requestVerify d.line s := by
  simp only [handVerify, h]

theorem finishRead_clean (ho : headOp s l = some o) (hl : listsColumn (lineRecord s l) (lineColumn l) = false)
    (h : d.outcome = .clean) : finishRead l o d s = ended l o.tag (fun t => .rret t .clean d.data) s := by
  unfold finishRead
  dsimp only
  rw [handEvent_silent _ _ (.inl h), handWriteback_silent _ _ (.inl h), handVerify_other _ (by simp [h]), h]
  exact completeRead_unlisted .clean d.data ho hl

theorem finishRead_mark (ho : headOp s l = some o) (h : d.outcome = .mark) :
    finishRead l o d s = ended l o.tag (fun t => .rret t .poisoned 0) (count .poisonReads s) := by
  unfold finishRead
  dsimp only
  rw [handEvent_silent _ _ (.inr h), handWriteback_silent _ _ (.inr h), handVerify_other _ (by simp [h]), h]
  exact completeRead_poisoned d.data ho

theorem finishRead_corrected {c : Cell} (ho : headOp s l = some o)
    (hl : listsColumn (lineRecord s l) (lineColumn l) = false) (hline : d.line = l) (h : d.outcome = .corrected)
    (hc : d.cell = some c) : finishRead l o d s = ended l o.tag (fun t => .rret t .corrected d.data)
      (requestVerify l (requestWriteback l (.data d.data) o.overtaken (receiveEvent ⟨l, .hostRead, .correction c⟩ s))) := by
  unfold finishRead
  dsimp only
  rw [handEvent_corrected _ _ h hc, handWriteback_corrected _ _ h, handVerify_corrected _ h, hline, h]
  refine completeRead_unlisted .corrected d.data (by rw [headOp_congr (s := s) (by simp), ho]) ?_
  rw [lineRecord_congr (t := receiveEvent ⟨l, .hostRead, .correction c⟩ s) (by simp)]
  exact receiveEvent_correction_listsColumn hl

theorem finishRead_uncorrectable (ho : headOp s l = some o) (hline : d.line = l) (h : d.outcome = .uncorrectable) :
    finishRead l o d s = ended l o.tag (fun t => .rret t .poisoned 0)
      (requestWriteback l .mark o.overtaken (receiveEvent ⟨l, .hostRead, .uncorrectable⟩ s)) := by
  unfold finishRead
  dsimp only
  rw [handEvent_uncorrectable _ _ h, handWriteback_uncorrectable _ _ h, handVerify_other _ (by simp [h]), hline, h]
  exact completeRead_poisoned d.data (by rw [headOp_congr (s := s) (by simp), ho])

end

/-! ### The state that the event and the requests of a read leave -/

/-- After a correction: the queues and the counter as the requests and the event make them, one by one. -/
theorem corrected_requests {l : LineAddr} (c : Cell) (content : LineContent) (b : Bool) (s : State) :
    let u := requestVerify l (requestWriteback l content b (receiveEvent ⟨l, .hostRead, .correction c⟩ s))
    u.wbQueue = (requestWriteback l content b s).wbQueue ∧ u.verifyQueue = (requestVerify l s).verifyQueue ∧
      u.counters.hostCorrected = min (s.counters.hostCorrected + 1) 4294967295 := by
  have hev := receiveEvent_hostCorrected (ev := ⟨l, .hostRead, .correction c⟩) s rfl (.inl rfl)
  refine ⟨by simp [wbQueue_after_event], requestVerify_verifyQueue (by simp) l, ?_⟩
  rw [← hev]
  rcases requestVerify_counters l (requestWriteback l content b (receiveEvent ⟨l, .hostRead, .correction c⟩ s)) with h | h <;>
  rcases requestWriteback_counters l content b (receiveEvent ⟨l, .hostRead, .correction c⟩ s) with k | k | k <;>
  rw [h, k] <;> rfl

/-- A request is answered after what keeps the line orders, the frames sent, the parameters and the quiet state. -/
theorem returned_eq {s v : State} (l : LineAddr) (f : OutFrame) (ho : v.ops = s.ops) (hf : v.linkOut = s.linkOut)
    (hp : v.params = s.params) (hq : v.quiet = s.quiet) : returned l f v = { v with
      ops := s.ops.eraseP fun o => o.line == l
      linkOut := s.linkOut ++ [f]
      quiet := s.quiet.report s.params (occupancy s - 1) } := by
  rw [returned, occupancy, occupancy, ho, hf, hp, hq]

/-- The two requests of a correction change the queues and the counters of the state that the event left. -/
theorem requests_eq (l : LineAddr) (content : LineContent) (b : Bool) (e : State) :
    ∃ w q n, requestVerify l (requestWriteback l content b e) = { e with wbQueue := w, verifyQueue := q, counters := n } := by
  rw [requestVerify_eq, requestWriteback_eq]
  exact ⟨_, _, _, rfl⟩

/-- Settles O14: outcome by outcome, what is handed on and then the return. -/
theorem readCompleted : Obligations.ReadCompleted := by
  intro s l damage o t p ho hk ht hst hl
  rw [rdMediaReadComplete_final ho hk hst]
  have hhead := (completing_head ho).1
  have hline := readLine_line s l p damage
  generalize readLine s l p damage = d at hline ⊢
  refine ⟨fun h => ?_, fun h => ?_, fun c h hc => ⟨_, rfl, ?_⟩, fun h => ⟨_, rfl, ?_⟩⟩
  · rw [finishRead_clean hhead hl h, ht]
    rfl
  · rw [finishRead_mark hhead h, ht, count_poisonReads]
    rfl
  · rw [finishRead_corrected hhead hl hline h hc, ht]
    obtain ⟨hw, hv, hn⟩ := corrected_requests (l := l) c (.data d.data) o.overtaken s
    have hret := returned_eq (s := s) l (.rret t .corrected d.data)
      (v := requestVerify l (requestWriteback l (.data d.data) o.overtaken (receiveEvent ⟨l, .hostRead, .correction c⟩ s)))
      (by simp) (by simp) (by simp) (by simp)
    refine ⟨rfl, congrArg State.linkOut hret, congrArg State.ops hret, hw, hv, hn, hret.trans ?_⟩
    obtain ⟨w, q, n, he⟩ := requests_eq l (.data d.data) o.overtaken (receiveEvent ⟨l, .hostRead, .correction c⟩ s)
    simp only [ended, hret]
    rw [he]
  · rw [finishRead_uncorrectable hhead hline h, ht]
    have hret := returned_eq (s := s) l (.rret t .poisoned 0)
      (v := requestWriteback l .mark o.overtaken (receiveEvent ⟨l, .hostRead, .uncorrectable⟩ s))
      (by simp) (by simp) (by simp) (by simp)
    refine ⟨rfl, congrArg State.linkOut hret, congrArg State.ops hret, wbQueue_after_event _ _ _ _ s,
      uncorrectable_after _ _ _ s, hret.trans ?_⟩
    have he := requestWriteback_eq l .mark o.overtaken (receiveEvent ⟨l, .hostRead, .uncorrectable⟩ s)
    simp only [ended, hret]
    rw [he]

end Sys2Proof.Machine
end

section
/-! PROOFS. The status of every read return (O16). -/

namespace Sys2Proof.Machine

/-! ### The status of every read return (R47) -/

/-- Where `u` has sent one read return more than `s`, it is POISONED if `u` lists the column, and carries zeros if POISONED. -/
def ReturnSettled (l : LineAddr) (s u : State) : Prop :=
  ∀ (t : Tag) (status : ReadStatus) (data : LineData), u.linkOut = s.linkOut ++ [.rret t status data] →
    (listsColumn (lineRecord u l) (lineColumn l) = true → status = .poisoned) ∧ (status = .poisoned → data = 0)

theorem returnSettled_of_silent {l : LineAddr} {s u : State} (h : u.linkOut = s.linkOut) : ReturnSettled l s u := by
  intro t status data hu
  rw [h, List.self_eq_append_right] at hu
  exact absurd hu (List.cons_ne_nil _ _)

theorem completeRead_settled (l : LineAddr) (o : Op) (status : ReadStatus) (data : LineData) {s v : State}
    (h : v.linkOut = s.linkOut) : ReturnSettled l s (completeRead l o status data v) := by
  cases ht : o.tag with
  | none => exact returnSettled_of_silent (by simp [completeRead, finishRequest, ht, h])
  | some t =>
    intro t' status' data' hu
    have hrecord : lineRecord (completeRead l o status data v) l = lineRecord v l := lineRecord_congr (by simp) l
    have hsent : OutFrame.rret t' status' data' =
        let settled := if listsColumn (lineRecord v l) (lineColumn l) then .poisoned else status
        .rret t settled (if settled = .poisoned then 0 else data) := by
      simpa [completeRead, finishRequest, ht, h] using hu.symm
    cases hsent
    rw [hrecord]
    exact ⟨fun hl => by simp [hl], fun hp => if_pos hp⟩

theorem performRead_settled (l : LineAddr) (o : Op) (s : State) : ReturnSettled l s (performRead l o s) := by
  unfold performRead
  dsimp only
  split
  · exact completeRead_settled l o _ _ (by simp [count])
  · split
    · exact completeRead_settled l o _ _ rfl
    · exact completeRead_settled l o _ _ (by simp [count])
    · exact returnSettled_of_silent (by simp)

theorem finishRead_settled (l : LineAddr) (o : Op) (d : Decode) (s : State) : ReturnSettled l s (finishRead l o d s) := by
  refine completeRead_settled l o _ _ ?_
  split <;> simp [count]

theorem rdIssue_settled {l : LineAddr} {s u : State} (h : exec (.rdIssue l) s = .next u) : ReturnSettled l s u := by
  simp only [exec, execRdIssue, Host.Outcome.next.injEq] at h
  subst h
  split
  · split
    · exact performRead_settled l _ s
    · exact returnSettled_of_silent rfl
  · exact returnSettled_of_silent rfl

theorem rdMediaReadComplete_settled {l : LineAddr} {damage : StoredLine} {s u : State}
    (h : exec (.rdMediaReadComplete l damage) s = .next u) : ReturnSettled l s u := by
  simp only [exec, execRdMediaReadComplete, Host.Outcome.next.injEq] at h
  subst h
  split
  · split
    · split
      · exact returnSettled_of_silent (by simp)
      · exact finishRead_settled l _ _ s
    · exact finishRead_settled l _ _ s
    · exact returnSettled_of_silent rfl
  · exact returnSettled_of_silent rfl

/-- Settles O16: every read return is sent by `completeRead`, which asks the poison list last of all. -/
theorem poisonListedReturnsPoisoned : Obligations.PoisonListedReturnsPoisoned := by
  intro s u c l t status data hc hx hout
  rw [← listsColumn_iff]
  rcases hc with rfl | ⟨damage, rfl⟩
  · exact rdIssue_settled hx t status data hout
  · exact rdMediaReadComplete_settled hx t status data hout

end Sys2Proof.Machine
end

section
/-! PROOFS. The frames of the front link as bits (O60). -/

namespace Sys2Proof.Machine

/-! ### Fields as runs of bits (R35) -/

theorem fieldAt_iff_prefix {bits : List Bool} {start w v : Nat} :
    FieldAt bits start w v ↔ fieldBits w v <+: bits.drop start := by
  rw [List.prefix_iff_getElem?]
  simp [fieldBits]

/-- The bits that are the field of a number are those that spell it. -/
theorem fieldBits_eq_iff {bs : List Bool} {w v : Nat} (hw : bs.length = w) (hv : v < 2 ^ w) :
    fieldBits w v = bs ↔ fieldValue bs = v := by
  constructor
  · rintro rfl
    rw [fieldValue_fieldBits, Nat.mod_eq_of_lt hv]
  · rintro rfl
    rw [← hw, fieldBits_fieldValue]

/-- A field holds the number that its bits spell. -/
theorem fieldAt_iff {bits : List Bool} {start w v : Nat} (hl : start + w ≤ bits.length) (hv : v < 2 ^ w) :
    FieldAt bits start w v ↔ fieldValue ((bits.drop start).take w) = v := by
  have hw : ((bits.drop start).take w).length = w := by simp; omega
  rw [fieldAt_iff_prefix, List.prefix_iff_eq_take, fieldBits_length, fieldBits_eq_iff hw hv]

theorem dataAt_of_prefix {bits : List Bool} {start : Nat} {d : LineData} (h : dataBits d <+: bits.drop start) :
    DataAt bits start d := by
  intro b i hb hi
  have hn : 8 * b + i < (dataBits d).length := by rw [dataBits_length]; omega
  have hbit := List.prefix_iff_getElem?.1 h _ hn
  have horder : dataOrder (8 * b + i) = 8 * b + (7 - i) := by unfold dataOrder; omega
  simpa [dataBits, horder, Nat.add_assoc] using hbit

/-! ### Where the fields of a frame stand (R35) -/

section
variable {f : FrameKind} {fields a b : List Bool} {start : Nat}

/-- What stands after `a` in the fields stands after the kind and `a` in the frame. -/
theorem frameBits_segment {seg : List Bool} (hf : fields = a ++ (seg ++ b)) (hs : start = 4 + a.length) :
    seg <+: (frameBits f fields).drop start := by
  have hframe : frameBits f fields = (fieldBits 4 f.code.toNat ++ a) ++ (seg ++ (b ++
      fieldBits 16 (Config.frameCheck (fieldBits 4 f.code.toNat ++ fields)).toNat)) := by
    simp [frameBits, hf]
  rw [hframe, List.drop_left' (by simp [hs])]
  exact List.prefix_append _ _

theorem frameBits_field {w v : Nat} (hf : fields = a ++ (fieldBits w v ++ b)) (hs : start = 4 + a.length) :
    FieldAt (frameBits f fields) start w v :=
  fieldAt_iff_prefix.2 (frameBits_segment hf hs)

theorem frameBits_data {d : LineData} (hf : fields = a ++ (dataBits d ++ b)) (hs : start = 4 + a.length) :
    DataAt (frameBits f fields) start d :=
  dataAt_of_prefix (frameBits_segment hf hs)

theorem frameBits_checkAt (hs : start = 4 + fields.length) : CheckAt (frameBits f fields) start :=
  hs ▸ frameBits_check f fields

/-- The tag and the line of a request stand after its kind. -/
theorem requestBits_fields (t : Tag) (l : LineAddr) (rest : List Bool) :
    FieldAt (frameBits f (requestBits t l ++ rest)) 4 5 t.val ∧ FieldAt (frameBits f (requestBits t l ++ rest)) 9 28 l.val :=
  ⟨frameBits_field (a := []) (by simp [requestBits]; rfl) (by simp),
    frameBits_field (a := fieldBits 5 t.val) (b := rest) (by simp [requestBits]) (by simp)⟩

end

/-! ### What the bits of a frame are read as (R36, R37) -/

theorem checkMatches_iff {bits : List Bool} {n : Nat} (hlen : bits.length = n + 16) :
    checkMatches bits = true ↔ CheckAt bits n := by
  have hfield := fieldAt_iff (bits := bits) (start := n) (w := 16) (v := (Config.frameCheck (bits.take n)).toNat)
    (by omega) (BitVec.isLt _)
  rw [List.take_of_length_le (l := bits.drop n) (by simp; omega)] at hfield
  rw [CheckAt, hfield, and_iff_right hlen]
  simp [checkMatches, hlen]

/-- The code in the kind field. -/
theorem kind_read {bits : List Bool} {k : BitVec 4} (hl : 4 ≤ bits.length) :
    FieldAt bits 0 4 k.toNat ↔ BitVec.ofNat 4 (fieldValue (bits.take 4)) = k := by
  have hlt := fieldValue_lt (bits.take 4)
  rw [fieldAt_iff (by omega) k.isLt, List.drop_zero, BitVec.toNat_eq, BitVec.toNat_ofNat, Nat.mod_eq_of_lt]
  rwa [List.length_take, Nat.min_eq_left hl] at hlt

theorem ofCode_code (f : FrameKind) : FrameKind.ofCode f.code = some f := by
  cases f <;> rfl

theorem code_of_ofCode {k : BitVec 4} {f : FrameKind} (h : FrameKind.ofCode k = some f) : f.code = k := by
  simpa using List.find?_some h

theorem readFrame_short {bits : List Bool} (h : bits.length < 20) : readFrame bits = .badFrame .length := by
  simp only [readFrame, h, if_true]

section
variable {bits : List Bool} {n : Nat} {k : BitVec 4} {f : FrameKind}

theorem readFrame_check_fails (hlen : bits.length = n + 16) (hn : 4 ≤ n) (hc : ¬ CheckAt bits n) :
    readFrame bits = .badFrame .frameCheck := by
  have hshort : ¬ bits.length < 20 := by omega
  have hmatch : checkMatches bits = false := by rwa [← checkMatches_iff hlen, Bool.not_eq_true] at hc
  simp only [readFrame, hshort, hmatch, if_true, if_false]

/-- The frame's check matches, and it names the kind `f` of the memory controller. -/
theorem readFrame_of_kind (hn : 4 ≤ n) (hc : CheckAt bits n) (hk : FieldAt bits 0 4 f.code.toNat)
    (hf : f.fromHost = true) : readFrame bits =
      if bits.length ≠ f.length then .badFrame .length else readFields f ((bits.drop 4).take (n - 4)) := by
  have hlen := hc.1
  have hshort : ¬ bits.length < 20 := by omega
  have hbody : bits.length - 20 = n - 4 := by omega
  have hcode := (kind_read (by omega)).1 hk
  simp only [readFrame, hshort, (checkMatches_iff hlen).2 hc, hcode, ofCode_code, hf, hbody, if_false, Bool.true_eq_false]

/-- A kind that the memory controller does not send, unassigned or the part's own. -/
theorem readFrame_foreign_kind (hn : 4 ≤ n) (hc : CheckAt bits n) (hk : FieldAt bits 0 4 k.toNat)
    (hh : k ∉ hostFrameKinds) : readFrame bits = .badFrame (.kind k) := by
  have hlen := hc.1
  have hshort : ¬ bits.length < 20 := by omega
  have hcode := (kind_read (by omega)).1 hk
  simp only [readFrame, hshort, (checkMatches_iff hlen).2 hc, hcode, if_false, Bool.true_eq_false]
  cases hf : FrameKind.ofCode k with
  | none => rfl
  | some f =>
    have hhost : f.fromHost = false := by simpa [FrameKind.fromHost, code_of_ofCode hf] using hh
    simp only [hhost, if_true]

end

/-- The kinds of the memory controller are those whose code it sends. -/
theorem exists_kind_of_host {k : BitVec 4} (h : k ∈ hostFrameKinds) :
    ∃ f : FrameKind, f.code = k ∧ f.fromHost = true := by
  simp only [hostFrameKinds, List.mem_cons, List.not_mem_nil, or_false] at h
  rcases h with rfl | rfl | rfl | rfl | rfl
  exacts [⟨.rd, rfl, rfl⟩, ⟨.wr, rfl, rfl⟩, ⟨.mwr, rfl, rfl⟩, ⟨.resetBegin, rfl, rfl⟩, ⟨.resetEnd, rfl, rfl⟩]

/-! ### Commands to frames and back -/

theorem hostFrame_lengths : FrameKind.rd.length = 53 ∧ FrameKind.wr.length = 565 ∧ FrameKind.mwr.length = 629 ∧
    FrameKind.resetBegin.length = 20 ∧ FrameKind.resetEnd.length = 20 := by
  decide

/-- The fields between the kind and the check of a frame. -/
theorem frameBits_body (f : FrameKind) (fields : List Bool) : ((frameBits f fields).drop 4).take fields.length = fields := by
  rw [frameBits, List.append_assoc, List.drop_left' (by simp), List.take_left]

/-- A frame of the right length is read by its fields. -/
theorem readFrame_frameBits {f : FrameKind} {fields : List Bool} (hf : f.fromHost = true)
    (hl : f.length = 20 + fields.length) : readFrame (frameBits f fields) = readFields f fields := by
  have hlen : (frameBits f fields).length = f.length := by rw [(frameBits_check f fields).1, hl]; omega
  rw [readFrame_of_kind (by omega) (frameBits_check f fields) (frameBits_kind f fields) hf, if_neg (not_not.2 hlen),
    Nat.add_sub_cancel_left, frameBits_body]

/-- The tag and the line that the first 33 bits spell. -/
def readRequest (bs : List Bool) : Tag × LineAddr :=
  (Fin.ofNat 32 (fieldValue (bs.take 5)), Fin.ofNat 268435456 (fieldValue ((bs.drop 5).take 28)))

/-- The tag and the line read back from a request's fields. -/
theorem request_read (t : Tag) (l : LineAddr) (rest : List Bool) :
    (readRequest (requestBits t l ++ rest)).1 = t ∧ (readRequest (requestBits t l ++ rest)).2 = l := by
  have htag : (requestBits t l ++ rest).take 5 = fieldBits 5 t.val := by
    rw [requestBits, List.append_assoc, List.take_left' (by simp)]
  have hline : ((requestBits t l ++ rest).drop 5).take 28 = fieldBits 28 l.val := by
    rw [requestBits, List.append_assoc, List.drop_left' (by simp), List.take_left' (by simp)]
  rw [readRequest, htag, hline, fieldValue_fieldBits, fieldValue_fieldBits]
  exact ⟨Fin.ext (by simp), Fin.ext (by simp)⟩

/-- Any 33 bits are the tag and the line that they spell. -/
theorem requestBits_read {bs : List Bool} (h : 33 ≤ bs.length) :
    requestBits (readRequest bs).1 (readRequest bs).2 = bs.take 33 := by
  have htag := fieldValue_lt (bs.take 5)
  have hline := fieldValue_lt ((bs.drop 5).take 28)
  have ht5 : (bs.take 5).length = 5 := by simp; omega
  have hl28 : ((bs.drop 5).take 28).length = 28 := by simp; omega
  rw [ht5] at htag
  rw [hl28] at hline
  have htagBits := fieldBits_fieldValue (bs.take 5)
  have hlineBits := fieldBits_fieldValue ((bs.drop 5).take 28)
  rw [ht5] at htagBits
  rw [hl28] at hlineBits
  have htagVal := Nat.mod_eq_of_lt htag
  have hlineVal := Nat.mod_eq_of_lt hline
  norm_num only at htagVal hlineVal
  rw [requestBits, readRequest, Fin.val_ofNat, Fin.val_ofNat, htagVal, hlineVal, htagBits, hlineBits, ← List.take_add]

theorem requestBits_length (t : Tag) (l : LineAddr) : (requestBits t l).length = 33 := by simp [requestBits]

theorem readFields_rd (bs : List Bool) : readFields .rd bs = .rd (readRequest bs).1 (readRequest bs).2 := rfl

theorem readFields_wr (bs : List Bool) :
    readFields .wr bs = .wr (readRequest bs).1 (readRequest bs).2 (dataValue (bs.drop 33)) := rfl

theorem readFields_mwr (bs : List Bool) :
    readFields .mwr bs = .mwr (readRequest bs).1 (readRequest bs).2 (dataValue (bs.drop 97))
      (BitVec.ofNat 64 (fieldValue ((bs.drop 33).take 64))) := rfl

/-- The frame of a command reads back as the command (R36). -/
theorem readFrame_hostFrame {c : Instr} {bits : List Bool} (h : hostFrame c = some bits) : readFrame bits = c := by
  cases c
  case rd t l =>
    obtain rfl := Option.some_inj.1 h
    rw [readFrame_frameBits rfl (by rw [requestBits_length, hostFrame_lengths.1])]
    obtain ⟨htag, hline⟩ := request_read t l []
    rw [List.append_nil] at htag hline
    rw [readFields_rd, htag, hline]
  case wr t l d =>
    obtain rfl := Option.some_inj.1 h
    rw [readFrame_frameBits rfl (by rw [List.length_append, requestBits_length, dataBits_length, hostFrame_lengths.2.1])]
    obtain ⟨htag, hline⟩ := request_read t l (dataBits d)
    rw [readFields_wr, htag, hline, List.drop_left' (requestBits_length t l), dataValue_dataBits]
  case mwr t l d e =>
    obtain rfl := Option.some_inj.1 h
    have hpre : (requestBits t l ++ fieldBits 64 e.toNat).length = 97 := by simp [requestBits_length]
    rw [readFrame_frameBits rfl (by rw [List.length_append, hpre, dataBits_length, hostFrame_lengths.2.2.1])]
    obtain ⟨htag, hline⟩ := request_read t l (fieldBits 64 e.toNat ++ dataBits d)
    have henables : ((requestBits t l ++ (fieldBits 64 e.toNat ++ dataBits d)).drop 33).take 64 = fieldBits 64 e.toNat := by
      rw [List.drop_left' (requestBits_length t l), List.take_left' (by simp)]
    rw [readFields_mwr, List.drop_left' hpre, dataValue_dataBits, List.append_assoc, htag, hline, henables,
      fieldValue_fieldBits, Nat.mod_eq_of_lt e.isLt, BitVec.ofNat_toNat, BitVec.setWidth_eq]
  case resetBegin =>
    obtain rfl := Option.some_inj.1 h
    exact readFrame_frameBits rfl rfl
  case resetEnd =>
    obtain rfl := Option.some_inj.1 h
    exact readFrame_frameBits rfl rfl
  all_goals exact absurd h (Option.some_ne_none _).symm

theorem hostFrame_rd (t : Tag) (l : LineAddr) : hostFrame (.rd t l) = some (frameBits .rd (requestBits t l)) := rfl

theorem hostFrame_wr (t : Tag) (l : LineAddr) (d : LineData) :
    hostFrame (.wr t l d) = some (frameBits .wr (requestBits t l ++ dataBits d)) := rfl

theorem hostFrame_mwr (t : Tag) (l : LineAddr) (d : LineData) (e : BitVec 64) :
    hostFrame (.mwr t l d e) = some (frameBits .mwr (requestBits t l ++ fieldBits 64 e.toNat ++ dataBits d)) := rfl

/-- Any fields of the length of a host frame are those of the command that they are read as. -/
theorem hostFrame_readFields {f : FrameKind} {bs : List Bool} (hf : f.fromHost = true) (hl : f.length = 20 + bs.length) :
    hostFrame (readFields f bs) = some (frameBits f bs) := by
  obtain ⟨hrd, hwr, hmwr, hbegin, hend⟩ := hostFrame_lengths
  cases f with
  | rd =>
    have hlen : bs.length = 33 := by omega
    rw [readFields_rd, hostFrame_rd, requestBits_read hlen.ge, List.take_of_length_le hlen.le]
  | wr =>
    have hlen : bs.length = 545 := by omega
    rw [readFields_wr, hostFrame_wr, requestBits_read (by omega), dataBits_dataValue _ (by simp; omega), List.take_append_drop]
  | mwr =>
    have hlen : bs.length = 609 := by omega
    have h64 : ((bs.drop 33).take 64).length = 64 := by simp; omega
    have hlt := fieldValue_lt ((bs.drop 33).take 64)
    have hen := fieldBits_fieldValue ((bs.drop 33).take 64)
    rw [h64] at hlt hen
    rw [readFields_mwr, hostFrame_mwr, requestBits_read (by omega), dataBits_dataValue _ (by simp; omega), BitVec.toNat_ofNat,
      Nat.mod_eq_of_lt hlt, hen, ← List.take_add, List.take_append_drop]
  | resetBegin =>
    have hlen : bs = [] := List.length_eq_zero_iff.1 (by omega)
    rw [hlen]; rfl
  | resetEnd =>
    have hlen : bs = [] := List.length_eq_zero_iff.1 (by omega)
    rw [hlen]; rfl
  | rret => cases hf
  | wret => cases hf
  | ready => cases hf

/-- Bits with a kind and a matching check are the frame of what stands between. -/
theorem frameBits_of_check {bits : List Bool} {n : Nat} {f : FrameKind} (hn : 4 ≤ n) (hc : CheckAt bits n)
    (hk : FieldAt bits 0 4 f.code.toNat) : frameBits f ((bits.drop 4).take (n - 4)) = bits := by
  obtain ⟨hlen, hcheck⟩ := hc
  have hkind := List.prefix_iff_eq_take.1 (fieldAt_iff_prefix.1 hk)
  have hend := (fieldAt_iff_prefix.1 hcheck).eq_of_length (by simp; omega)
  rw [fieldBits_length, List.drop_zero] at hkind
  have hbody : bits.take 4 ++ (bits.drop 4).take (n - 4) = bits.take n := by
    rw [← List.take_add, Nat.add_sub_cancel' hn]
  rw [frameBits, hkind, hbody, hend, List.take_append_drop]

/-- Every run of bits is the frame of the command that it is read as, or a bad frame (R37). -/
theorem readFrame_total (bits : List Bool) : hostFrame (readFrame bits) = some bits ∨
    ∃ cause : BadFrameCause, cause.isBad = true ∧ readFrame bits = .badFrame cause := by
  by_cases hshort : bits.length < 20
  · exact .inr ⟨.length, rfl, readFrame_short hshort⟩
  obtain ⟨n, hlen⟩ : ∃ n, bits.length = n + 16 := ⟨bits.length - 16, by omega⟩
  have hn : 4 ≤ n := by omega
  by_cases hc : CheckAt bits n
  case neg => exact .inr ⟨.frameCheck, rfl, readFrame_check_fails hlen hn hc⟩
  obtain ⟨k, hk⟩ : ∃ k : BitVec 4, FieldAt bits 0 4 k.toNat := ⟨_, (kind_read (by omega)).2 rfl⟩
  by_cases hh : k ∈ hostFrameKinds
  case neg => exact .inr ⟨.kind k, by simpa [BadFrameCause.isBad] using hh, readFrame_foreign_kind hn hc hk hh⟩
  obtain ⟨f, rfl, hf⟩ := exists_kind_of_host hh
  by_cases hl : bits.length = f.length
  · left
    rw [readFrame_of_kind hn hc hk hf, if_neg (not_not.2 hl), hostFrame_readFields hf, frameBits_of_check hn hc hk]
    simp; omega
  · exact .inr ⟨.length, rfl, by rw [readFrame_of_kind hn hc hk hf, if_pos hl]⟩

/-- Settles O60: fields stand one after another, and reading a frame undoes sending it. -/
theorem framesReadBack : Obligations.FramesReadBack := by
  refine ⟨⟨rfl, rfl, rfl, rfl, rfl⟩, ⟨fun t l => ?_, fun t l d => ?_, fun t l d e => ?_, ?_, ?_, fun t st d => ?_,
    fun t st => ?_, ?_, ?_⟩, fun c bits => readFrame_hostFrame, readFrame_total, fun bits => readFrame_short,
    fun bits n k hlen hn hk => ⟨readFrame_check_fails hlen hn, fun hc => ⟨readFrame_foreign_kind hn hc hk, ?_⟩⟩⟩
  · obtain ⟨ht, hline⟩ := requestBits_fields (f := .rd) t l []
    rw [List.append_nil] at ht hline
    exact ⟨_, rfl, frameBits_kind .rd _, ht, hline, frameBits_checkAt (by rw [requestBits_length])⟩
  · obtain ⟨ht, hline⟩ := requestBits_fields (f := .wr) t l (dataBits d)
    exact ⟨_, rfl, frameBits_kind .wr _, ht, hline,
      frameBits_data (a := requestBits t l) (b := []) (by simp) (by rw [requestBits_length]),
      frameBits_checkAt (by simp [requestBits_length])⟩
  · have hshape : requestBits t l ++ fieldBits 64 e.toNat ++ dataBits d =
        requestBits t l ++ (fieldBits 64 e.toNat ++ dataBits d) := List.append_assoc _ _ _
    obtain ⟨ht, hline⟩ := requestBits_fields (f := .mwr) t l (fieldBits 64 e.toNat ++ dataBits d)
    rw [← hshape] at ht hline
    exact ⟨_, rfl, frameBits_kind .mwr _, ht, hline, frameBits_field hshape (by rw [requestBits_length]),
      frameBits_data (a := requestBits t l ++ fieldBits 64 e.toNat) (b := []) (by simp) (by simp [requestBits_length]),
      frameBits_checkAt (by simp [requestBits_length])⟩
  · exact ⟨_, rfl, frameBits_kind .resetBegin _, frameBits_checkAt rfl⟩
  · exact ⟨_, rfl, frameBits_kind .resetEnd _, frameBits_checkAt rfl⟩
  · exact ⟨frameBits_kind .rret _,
      frameBits_field (a := []) (b := fieldBits 2 st.code.toNat ++ dataBits d) (by simp) rfl,
      frameBits_field (a := fieldBits 5 t.val) (b := dataBits d) (by simp) (by simp),
      frameBits_data (a := fieldBits 5 t.val ++ fieldBits 2 st.code.toNat) (b := []) (by simp) (by simp),
      frameBits_checkAt (by simp)⟩
  · exact ⟨frameBits_kind .wret _,
      frameBits_field (a := []) (b := fieldBits 2 st.code.toNat) (by simp) rfl,
      frameBits_field (a := fieldBits 5 t.val) (b := []) (by simp) (by simp),
      frameBits_checkAt (by simp)⟩
  · exact frameBits_kind .ready _
  · exact frameBits_checkAt rfl
  · rintro f rfl hh hl
    exact (readFrame_of_kind hn hc hk (by simpa [FrameKind.fromHost] using hh)).trans (if_pos hl)

end Sys2Proof.Machine
end

section
/-! PROOFS. A read served again, and the attempt that it ends (O15). -/

namespace Sys2Proof.Machine

/-! ### A failed attempt, retried or condemned (R158, R159) -/

theorem keeps_failAttempt {α : Type} {g : Record → α} (hg : IgnoresProgress g)
    (hp : ∀ r : Record, g { r with persistWanted := false } = g r) (r : Record) (d : SpareIdx) :
    KeepsOfRecords g (failAttempt r d) := by
  intro s k
  have hbase : lookup (failedBase r d s) k = lookup s k := by
    obtain ⟨-, -, htable, -⟩ := failedBase_spec r d s
    exact lookup_congr htable k
  rw [failAttempt_eq, startPersist_lookup g hp, ← hbase]
  split
  · exact keeps_startAttempt hg _ _ _ _ k
  · rw [keeps_serveQueue hg, keeps_condemn hg]

theorem keeps_reportFailure {α : Type} {g : Record → α} (hg : IgnoresProgress g)
    (hp : ∀ r : Record, g { r with persistWanted := false } = g r) (l : LineAddr) (d : SpareIdx) :
    KeepsOfRecords g (reportFailure l d) := by
  intro s k
  unfold reportFailure
  split
  · split
    · exact keeps_failAttempt hg hp _ d s k
    · rfl
  · rfl

/-- The next attempt is onto another spare, or the record is condemned and the engine looks on (R159). -/
theorem failAttempt_cases (r : Record) (d : SpareIdx) (s : State) :
    (∃ d' n, d' ≠ d ∧ failAttempt r d s = startPersist (startAttempt r.key d' n (failedBase r d s))) ∨
      failAttempt r d s = startPersist (serveQueue (condemn r.key (failedBase r d s))) := by
  obtain ⟨hspare, -⟩ := failedBase_spec r d s
  rw [failAttempt_eq]
  split
  · next d' hd' =>
    refine .inl ⟨d', _, ?_, rfl⟩
    rintro rfl
    split at hd'
    · have hfree := (lowestFree_some.1 hd').1
      rw [hspare, if_pos ⟨rfl, rfl⟩] at hfree
      cases hfree
    · cases hd'
  · exact .inr rfl

theorem failAttempt_burned (r : Record) (d : SpareIdx) (s : State) :
    spareState (failAttempt r d s).spares (keyPos r.key) d = .burned := by
  obtain ⟨hspare, -⟩ := failedBase_spec r d s
  have hburned : spareState (failedBase r d s).spares (keyPos r.key) d = .burned := by simp [hspare]
  rcases failAttempt_cases r d s with ⟨d', n, hne, h⟩ | h
  · simp [h, hburned, hne.symm]
  · simp only [h, startPersist_frame]
    rw [serveQueue, takeHeads_spares _ _ _ _ (by simp [hburned])]
    simpa using hburned

theorem failAttempt_counters (r : Record) (d : SpareIdx) (s : State) :
    (failAttempt r d s).counters = { s.counters with sparesBurned := min (s.counters.sparesBurned + 1) 4294967295 } := by
  obtain ⟨-, hcounters, -⟩ := failedBase_spec r d s
  rcases failAttempt_cases r d s with ⟨d', n, -, h⟩ | h <;> simp [h, serveQueue, hcounters]

theorem failAttempt_stepOrphaned (r : Record) (d : SpareIdx) (s : State) : StepOrphaned s (failAttempt r d s) := by
  obtain ⟨-, -, -, -, -, -, -, -, -, horphaned⟩ := failedBase_spec r d s
  have hsame : (failAttempt r d s).engine.step = (failedBase r d s).engine.step ∧
      (failAttempt r d s).slot = (failedBase r d s).slot := by
    rcases failAttempt_cases r d s with ⟨d', n, -, h⟩ | h
    · simp [h, startAttempt]
    · simp [h, serveQueue, (takeHeads_engine _ _).1]
  simp only [StepOrphaned, hsame]
  exact horphaned

/-- The record of the key, if there is one, does not name the spare `d` as its destination. -/
def NotOnto (k : RowKey) (d : SpareIdx) (s : State) : Prop := ∀ r, lookup s k = some r → r.destSpare ≠ some d

theorem notOnto_congr {k : RowKey} {d : SpareIdx} {s u : State}
    (h : (lookup u k).map Record.destSpare = (lookup s k).map Record.destSpare) (hs : NotOnto k d s) : NotOnto k d u := by
  intro r hr hd
  rw [hr, Option.map_some] at h
  obtain ⟨r', hr', hd'⟩ := Option.map_eq_some_iff.1 h.symm
  exact hs r' hr' (hd'.trans hd)

/-- A change of one record is safe when it does not end on the spare, and when the record was not that of the key. -/
theorem notOnto_updateRecord {x k : RowKey} {d : SpareIdx} {f : Record → Record} {s : State} (hf : ∀ r, (f r).key = r.key)
    (hd : x = k → ∀ r, (f r).destSpare ≠ some d) (hs : x ≠ k → NotOnto k d s) : NotOnto k d (updateRecord x f s) := by
  intro r hr
  rw [lookup_updateRecord _ _ _ _ (fun r h => (hf r).trans h)] at hr
  split at hr
  · next hk =>
    obtain ⟨r', -, rfl⟩ := Option.map_eq_some_iff.1 hr
    exact hd hk.symm r'
  · next hk => exact hs (Ne.symm hk) r hr

theorem notOnto_startAttempt {x k : RowKey} {d d' : SpareIdx} (n : Nat) {s : State} (hd : x = k → d' ≠ d)
    (hs : x ≠ k → NotOnto k d s) : NotOnto k d (startAttempt x d' n s) :=
  notOnto_updateRecord (fun _ => rfl) (fun hx _ h => hd hx (Option.some_inj.1 h))
    fun hx => notOnto_congr (congrArg _ (lookup_congr (by simp) k)) (hs hx)

theorem notOnto_condemn {x k : RowKey} {d : SpareIdx} {s : State} (hs : x ≠ k → NotOnto k d s) :
    NotOnto k d (condemn x s) :=
  notOnto_congr (s := updateRecord x (Record.settle .condemned) s) (congrArg _ (lookup_congr (by simp [condemn]) k))
    (notOnto_updateRecord (fun _ => rfl) (fun _ _ => (Option.some_ne_none d).symm) hs)

/-- The engine takes up no migration onto a BURNED spare (R146, R151). -/
theorem notOnto_takeHeads {k : RowKey} {d : SpareIdx} (n : Nat) {s : State}
    (hburned : spareState s.spares (keyPos k) d = .burned) (h : NotOnto k d s) : NotOnto k d (takeHeads n s) := by
  induction n generalizing s with
  | zero => exact h
  | succ n ih =>
    unfold takeHeads
    split
    · exact h
    · split
      · exact h
      · next x rest hq =>
        dsimp only
        split
        · next d' hd' =>
          refine notOnto_startAttempt 1 (fun hx hd => ?_) fun _ => h
          have hfree := (lowestFree_some.1 hd').1
          rw [hx, hd, State.setQueue_spares, hburned] at hfree
          cases hfree
        · exact ih (by simpa using hburned) (notOnto_condemn fun _ => h)

/-- After a failed attempt the record's destination, if it has one, is another spare (R159). -/
theorem failAttempt_notOnto (r : Record) (d : SpareIdx) (s : State) : NotOnto r.key d (failAttempt r d s) := by
  obtain ⟨hspare, -⟩ := failedBase_spec r d s
  have hpersist (u : State) (h : NotOnto r.key d u) : NotOnto r.key d (startPersist u) :=
    notOnto_congr (startPersist_lookup Record.destSpare (fun _ => rfl) u r.key) h
  rcases failAttempt_cases r d s with ⟨d', n, hne, h⟩ | h <;> rw [h]
  · exact hpersist _ (notOnto_startAttempt n (fun _ => hne) fun hx => absurd rfl hx)
  · exact hpersist _ (notOnto_takeHeads _ (by simp [hspare]) (notOnto_condemn fun hx => absurd rfl hx))

/-! ### A read served again (R45, R158) -/

theorem homePlace_congr {a b : Option Record} (h : (a.map Record.homeSpare).join = (b.map Record.homeSpare).join) :
    homePlace a = homePlace b := by
  have hhome (r : Option Record) : homePlace r = (r.map Record.homeSpare).join.elim .hostRow .spare := by
    rcases r with _ | ⟨⟩
    · rfl
    · simp only [homePlace, Option.map_some, Option.join_some]
      split <;> simp [*]
  rw [hhome, hhome, h]

theorem homePlace_ne_spare {r : Record} {d : SpareIdx} (h : r.homeSpare ≠ some d) : homePlace (some r) ≠ .spare d := by
  cases hr : r.homeSpare with
  | none => simp [homePlace_hostRow hr]
  | some i =>
    rw [homePlace_spare hr]
    rintro ⟨⟩
    exact h hr

/-- The report of a failure leaves the home of every record. -/
theorem homePlace_reportFailure (l : LineAddr) (d : SpareIdx) (s : State) :
    homePlace (lineRecord (reportFailure l d s) l) = homePlace (lineRecord s l) := by
  have hkeep := keeps_reportFailure (g := Record.homeSpare) (fun _ _ _ _ _ => rfl) (fun _ => rfl) l d s (lineKey l)
  exact homePlace_congr (congrArg Option.join hkeep)

/-- The read is reported where its place was a spare, and issued again from the home. -/
theorem reserve_spare (l : LineAddr) (d : SpareIdx) (s : State) : reserve l (.spare d) s =
    { reportFailure l d s with
      ops := stagedOps s l (.rereading (homePlace (lineRecord s l)) s.stamps)
      stamps := s.stamps + 1 } := by
  have hops : (reportFailure l d s).ops = s.ops := by simp
  have hstamps : (reportFailure l d s).stamps = s.stamps := by simp
  simp only [reserve, homePlace_reportFailure, issueReread, setStage, State.setOps, State.setStamps, stagedOps, hops, hstamps]

theorem reserve_hostRow (l : LineAddr) (s : State) : reserve l .hostRow s =
    { s with
      ops := stagedOps s l (.rereading (homePlace (lineRecord s l)) s.stamps)
      stamps := s.stamps + 1 } := rfl

/-- The operation at the head of the order stands at its new stage. -/
theorem headOp_staged {s u : State} {l : LineAddr} {o : Op} {st : Stage} (ho : headOp s l = some o)
    (hu : u.ops = stagedOps s l st) : headOp u l = some { o with stage := st } := by
  rw [headOp, hu, stagedOps, find_modifyFirst]
  · exact congrArg (Option.map _) ho
  · exact fun _ h => h

theorem reserve_ops (l : LineAddr) (p : Place) (s : State) :
    (reserve l p s).ops = stagedOps s l (.rereading (homePlace (lineRecord s l)) s.stamps) := by
  cases p with
  | hostRow => rfl
  | spare d => rw [reserve_spare]


/-! ### Reads of a migration's destination -/

theorem mustReserve_iff (s : State) (l : LineAddr) (p : Place) (viaDest : Bool) (d : Decode) :
    mustReserve s l p viaDest d = true ↔ viaDest = true ∧ (d.outcome = .corrected ∨ d.outcome = .uncorrectable) ∧ homePlace (lineRecord s l) ≠ p := by
  simp [mustReserve, Decode.failsDestination, and_assoc]

/-- The completion of a read of the place `p`, routed to a destination, that must be served again. -/
theorem read_reserved {s : State} {l : LineAddr} {damage : StoredLine} {o : Op} {p : Place} {n : Nat} {c : Instr}
    (ho : completing s l = some o) (hst : o.stage = .reading p true n)
    (hc : (o.kind = .rd ∧ c = .rdMediaReadComplete l damage) ∨
      (∃ new enables, o.kind = .mwr new enables ∧ c = .mwrReadHalfComplete l damage) ∨
      (o.kind = .verify ∧ s.slot = some (.verify l) ∧ c = .verifyReadComplete damage))
    (hm : mustReserve s l p true (readLine s l p damage) = true) : exec c s = .next (reserve l p s) := by
  rcases hc with ⟨hk, rfl⟩ | ⟨new, enables, hk, rfl⟩ | ⟨hk, hslot, rfl⟩
  · simp only [exec, execRdMediaReadComplete, ho, hk, hst, hm, if_true]
  · simp only [exec, execMwrReadHalfComplete, ho, hk, hst, hm, if_true]
  · simp only [exec, execVerifyReadComplete, hslot, ho, hk, hst, hm, if_true]

theorem migratesOnto_iff (r : Record) (d : SpareIdx) :
    migratesOnto (some r) d = true ↔ r.state = .migrating ∧ r.destSpare = some d := by
  simp [migratesOnto]

theorem reportFailure_migrating {s : State} {l : LineAddr} {r : Record} {d : SpareIdx} (hr : lineRecord s l = some r)
    (hm : r.state = .migrating) (hd : r.destSpare = some d) : reportFailure l d s = failAttempt r d s := by
  simp only [reportFailure, hr, (migratesOnto_iff r d).2 ⟨hm, hd⟩, if_true]

theorem reportFailure_other {s : State} {l : LineAddr} {d : SpareIdx}
    (h : ∀ r : Record, lineRecord s l = some r → r.state ≠ .migrating ∨ r.destSpare ≠ some d) :
    reportFailure l d s = s := by
  unfold reportFailure
  split
  · next r hr =>
    rw [if_neg]
    rw [migratesOnto_iff]
    exact fun hm => (h r hr).elim (fun hs => hs hm.1) (fun hd => hd hm.2)
  · rfl

/-- A failed attempt changes the records, the spares, and what migrates and is to be recorded. -/
theorem failAttempt_eq_frame (r : Record) (d : SpareIdx) (s : State) : failAttempt r d s = { s with
    table := (failAttempt r d s).table, spares := (failAttempt r d s).spares, queue := (failAttempt r d s).queue
    engine := (failAttempt r d s).engine, slot := (failAttempt r d s).slot, persist := (failAttempt r d s).persist
    counters := (failAttempt r d s).counters, attn := (failAttempt r d s).attn } := by
  have hframe := failAttempt_frame r d s
  generalize failAttempt r d s = u at hframe
  cases s
  cases u
  simp_all

/-- A failed attempt leaves the record's score and its poison list. -/
theorem failAttempt_keepsScore {r : Record} {s : State} (d : SpareIdx) (h : lookup s r.key = some r) :
    ∃ r' : Record, lookup (failAttempt r d s) r.key = some r' ∧
      r'.weight = r.weight ∧ r'.corrections = r.corrections ∧ r'.poison = r.poison := by
  have hkeep := keeps_failAttempt (g := fun r : Record => (r.weight, r.corrections, r.poison)) (fun _ _ _ _ _ => rfl)
    (fun _ => rfl) r d s r.key
  rw [h, Option.map_some] at hkeep
  obtain ⟨r', hr', heq⟩ := Option.map_eq_some_iff.1 hkeep
  simp only [Prod.mk.injEq] at heq
  exact ⟨r', hr', heq⟩

/-- Settles O15: the read is served again from the home, and what ends the attempt is `failAttempt`. -/
theorem destinationReadServedAgain : Obligations.DestinationReadServedAgain := by
  refine ⟨mustReserve_iff, fun s l damage o d n c ho hst hc hfail => ⟨fun r hr hm hd hh => ?_, fun hne hother => ?_⟩⟩
  · have hmust := (mustReserve_iff s l (.spare d) true (readLine s l (.spare d) damage)).2
      ⟨rfl, hfail, by rw [hr]; exact homePlace_ne_spare hh⟩
    have hkey : r.key = lineKey l := lookup_key hr
    have hrec : lookup s r.key = some r := by rw [hkey]; exact hr
    refine ⟨_, read_reserved ho hst hc hmust, headOp_staged (completing_head ho).1 (by rw [reserve_ops, hr]),
      by rw [reserve_ops, hr], ?_⟩
    rw [reserve_spare, reportFailure_migrating hr hm hd, ← hkey]
    obtain ⟨r', hr', hscore⟩ := failAttempt_keepsScore d hrec
    refine ⟨failAttempt_burned r d s, by rw [failAttempt_counters], fun g hg => (failAttempt_spec d hrec hg).1,
      failAttempt_stepOrphaned r d s, by rw [failAttempt_eq_frame], r', ?_, failAttempt_notOnto r d s r' hr', hscore⟩
    rw [lineRecord, ← hkey]
    exact hr'
  · have hmust := (mustReserve_iff s l (.spare d) true (readLine s l (.spare d) damage)).2 ⟨rfl, hfail, hne⟩
    rw [read_reserved ho hst hc hmust, reserve_spare, reportFailure_other hother]

end Sys2Proof.Machine
end

section
/-! PROOFS. The bytes and the read half of a masked write. -/

namespace Sys2Proof.Machine

/-! ### The bytes of a masked write (R2, R50) -/

/-- The mask of a byte at the low end of a line. -/
theorem lowByte_getLsbD (k : Nat) : (255 : LineData).getLsbD k = decide (k < 8) := by
  have hmask : (255 : LineData) = BitVec.ofNat 512 (2 ^ 8 - 1) := rfl
  rw [hmask, BitVec.getLsbD_ofNat, Nat.testBit_two_pow_sub_one, Bool.and_eq_right_iff_imp]
  simp only [decide_eq_true_eq]
  omega

/-- One enabled byte: its eight bits are those of the new line, every other bit is as it was. -/
theorem mergeByte_getLsbD (acc new : LineData) (b i : Nat) (hi : i < 512) :
    ((acc &&& ~~~((255 : LineData) <<< (8 * b))) ||| (((new.extractLsb' (8 * b) 8).setWidth 512) <<< (8 * b))).getLsbD i =
      if i / 8 = b then new.getLsbD i else acc.getLsbD i := by
  have hlow : decide (i < 512) = true := by simp [hi]
  rw [BitVec.getLsbD_or, BitVec.getLsbD_and, BitVec.getLsbD_not, BitVec.getLsbD_shiftLeft, BitVec.getLsbD_shiftLeft,
    lowByte_getLsbD, BitVec.getLsbD_setWidth, BitVec.getLsbD_extractLsb', hlow]
  rcases lt_or_ge i (8 * b) with h | h
  · have hne : ¬ i / 8 = b := by omega
    simp [h, hne]
  · have hsub : 8 * b + (i - 8 * b) = i := by omega
    have hfar : i - 8 * b < 512 := by omega
    by_cases hin : i - 8 * b < 8
    · have heq : i / 8 = b := by omega
      simp only [hin, hsub, hfar, heq, not_lt.2 h]
      simp
    · have hne : ¬ i / 8 = b := by omega
      simp [h, hin, hne]

theorem mergeBytes_getLsbD (old new : LineData) (enables : BitVec 64) (i : Nat) (hi : i < 512) :
    (mergeBytes old new enables).getLsbD i =
      if i / 8 < 64 ∧ enables.getLsbD (i / 8) = true then new.getLsbD i else old.getLsbD i := by
  unfold mergeBytes
  suffices h : ∀ n ≤ 64, (List.foldl (fun acc b => if enables.getLsbD b then
        (acc &&& ~~~((255 : LineData) <<< (8 * b))) ||| (((new.extractLsb' (8 * b) 8).setWidth 512) <<< (8 * b))
      else acc) old (List.range n)).getLsbD i =
      if i / 8 < n ∧ enables.getLsbD (i / 8) = true then new.getLsbD i else old.getLsbD i from h 64 le_rfl
  intro n hn
  induction n with
  | zero => simp
  | succ n ih =>
    rw [List.range_succ, List.foldl_append, List.foldl_cons, List.foldl_nil]
    by_cases hen : enables.getLsbD n = true
    · rw [if_pos hen, mergeByte_getLsbD _ _ _ _ hi, ih (by omega)]
      by_cases heq : i / 8 = n
      · simp [heq, hen]
      · have hlt : i / 8 < n + 1 ↔ i / 8 < n := by omega
        simp only [heq, if_false, hlt]
    · rw [if_neg hen, ih (by omega)]
      have hlt : (i / 8 < n + 1 ∧ enables.getLsbD (i / 8) = true) ↔ (i / 8 < n ∧ enables.getLsbD (i / 8) = true) := by
        refine and_congr_left fun h => ⟨fun hl => ?_, fun hl => by omega⟩
        have hne : i / 8 ≠ n := fun heq => hen (heq ▸ h)
        omega
      simp only [hlt]

/-- An enabled byte comes from the new line, any other from the old one (R50). -/
theorem mergeBytes_extract (old new : LineData) (enables : BitVec 64) (b : Nat) (hb : b < 64) :
    (mergeBytes old new enables).extractLsb' (8 * b) 8 =
      if enables.getLsbD b then new.extractLsb' (8 * b) 8 else old.extractLsb' (8 * b) 8 := by
  refine BitVec.eq_of_getLsbD_eq fun j hj => ?_
  have hdiv : (8 * b + j) / 8 = b := by omega
  rw [BitVec.getLsbD_extractLsb', mergeBytes_getLsbD _ _ _ _ (by omega), hdiv]
  by_cases hen : enables.getLsbD b = true
  · rw [if_pos ⟨hb, hen⟩, if_pos hen, BitVec.getLsbD_extractLsb']
  · rw [if_neg fun h => hen h.2, if_neg hen, BitVec.getLsbD_extractLsb']


/-! ### The read half of a masked write (R49) -/

theorem hostWriteGivenUp_none {s : State} {l : LineAddr} (h : awaitedContent s l = none) : hostWriteGivenUp l s = s := by
  rw [hostWriteGivenUp, h]

theorem keepPoison_eq {s : State} {l : LineAddr} {o : Op} (ho : headOp s l = some o) :
    keepPoison l o s = hostWriteGivenUp l (ended l o.tag (fun t => .wret t .poisonKept) s) := by
  rw [keepPoison, finishRequest_ended _ ho]

/-- The write half is issued by the request whose read half has ended. -/
def halfWritten (v : State) (l : LineAddr) (data : LineData) : State :=
  { v with
    table := unpoisoned v l
    ops := modifyFirst (fun o => o.line == l) (fun o => { o with
      stage := .writing (writeTargets v l) (.data data) v.stamps
      openRead := none }) v.ops
    stamps := v.stamps + 1 }

theorem performWrite_closeRead (l : LineAddr) (data : LineData) (v : State) :
    performWrite l data (closeRead l v) = halfWritten v l data := by
  have htargets : writeTargets (closeRead l v) l = writeTargets v l := rfl
  have hops : modifyFirst (fun o : Op => o.line == l)
      (fun o => { o with stage := .writing (writeTargets v l) (.data data) v.stamps }) (closeRead l v).ops =
      modifyFirst (fun o : Op => o.line == l)
        (fun o => { o with stage := .writing (writeTargets v l) (.data data) v.stamps, openRead := none }) v.ops :=
    modifyFirst_modifyFirst _ _ _ _ fun _ h => h
  rw [performWrite_eq, htargets, stagedOps]
  exact congrArg (fun ops => { v with table := unpoisoned v l, ops := ops, stamps := v.stamps + 1 }) hops

theorem mwrReadHalfIssue_listed {s : State} {l : LineAddr} {o : Op} {new : LineData} {enables : BitVec 64}
    (ho : headOp s l = some o) (hk : o.kind = .mwr new enables) (hst : o.stage = .waiting)
    (hl : listsColumn (lineRecord s l) (lineColumn l) = true) : exec (.mwrReadHalfIssue l) s =
      .next (hostWriteGivenUp l (ended l o.tag (fun t => .wret t .poisonKept) s)) := by
  simp only [exec, execMwrReadHalfIssue, ho, hk, hst, hl, if_true, keepPoison_eq ho]

theorem mwrReadHalfIssue_media {s : State} {l : LineAddr} {o : Op} {new : LineData} {enables : BitVec 64}
    (ho : headOp s l = some o) (hk : o.kind = .mwr new enables) (hst : o.stage = .waiting)
    (hl : listsColumn (lineRecord s l) (lineColumn l) = false) : exec (.mwrReadHalfIssue l) s = .next { s with
      ops := stagedOps s l (.reading (readTarget (lineRecord s l) (lineColumn l)).1
        (readTarget (lineRecord s l) (lineColumn l)).2 s.stamps)
      stamps := s.stamps + 1 } := by
  simp only [exec, execMwrReadHalfIssue, ho, hk, hst, hl, Bool.false_eq_true, if_false]
  rfl

theorem mwrReadHalfComplete_final {s : State} {l : LineAddr} {damage : StoredLine} {o : Op} {p : Place} {new : LineData}
    {enables : BitVec 64} (ho : completing s l = some o) (hk : o.kind = .mwr new enables) (hst : FinalRead s l o p damage) :
    exec (.mwrReadHalfComplete l damage) s = .next (finishReadHalf l o new enables (readLine s l p damage) s) := by
  rcases hst with ⟨n, hst⟩ | ⟨via, n, hst, hm⟩
  · simp only [exec, execMwrReadHalfComplete, ho, hk, hst]
  · simp only [exec, execMwrReadHalfComplete, ho, hk, hst, hm]
    rfl

section
variable {s : State} {l : LineAddr} {o : Op} {d : Decode} (new : LineData) (enables : BitVec 64)

theorem finishReadHalf_clean (h : d.outcome = .clean) :
    finishReadHalf l o new enables d s = halfWritten s l (mergeBytes d.data new enables) := by
  simp only [finishReadHalf, h, handEvent_silent _ _ (.inl h), handMark_other (d := d) o.overtaken _ (by simp [h]),
    performWrite_closeRead]

theorem finishReadHalf_corrected {c : Cell} (hline : d.line = l) (h : d.outcome = .corrected) (hc : d.cell = some c) :
    finishReadHalf l o new enables d s =
      halfWritten (receiveEvent ⟨l, .maskedWrite, .correction c⟩ s) l (mergeBytes d.data new enables) := by
  simp only [finishReadHalf, h, handEvent_corrected _ _ h hc, handMark_other (d := d) o.overtaken _ (by simp [h]),
    performWrite_closeRead, hline]

theorem finishReadHalf_mark (ho : headOp s l = some o) (h : d.outcome = .mark) :
    finishReadHalf l o new enables d s = hostWriteGivenUp l (ended l o.tag (fun t => .wret t .poisonKept) s) := by
  simp only [finishReadHalf, h, handEvent_silent _ _ (.inr h), handMark_other (d := d) o.overtaken _ (by simp [h]),
    keepPoison_eq ho]

theorem finishReadHalf_uncorrectable (ho : headOp s l = some o) (hline : d.line = l) (h : d.outcome = .uncorrectable) :
    finishReadHalf l o new enables d s = hostWriteGivenUp l (ended l o.tag (fun t => .wret t .poisonKept)
      (requestWriteback l .mark o.overtaken (receiveEvent ⟨l, .maskedWrite, .uncorrectable⟩ s))) := by
  have hhead : headOp (requestWriteback l .mark o.overtaken (receiveEvent ⟨l, .maskedWrite, .uncorrectable⟩ s)) l =
      some o := by
    rw [headOp_congr (s := s) (by simp), ho]
  simp only [finishReadHalf, h, handEvent_uncorrectable _ _ h, handMark_uncorrectable _ _ h, hline, keepPoison_eq hhead]

end

theorem homePlace_mem_writeTargets (s : State) (l : LineAddr) : homePlace (lineRecord s l) ∈ writeTargets s l := by
  unfold writeTargets
  dsimp only
  (repeat' split) <;> simp

/-- A correction leaves the home of its row, tracked or not. -/
theorem homePlace_correction (l : LineAddr) (g : Origin) (c : Cell) (s : State) :
    homePlace (lineRecord (receiveEvent ⟨l, g, .correction c⟩ s) l) = homePlace (lineRecord s l) := by
  have hhome : IgnoresProgress Record.homeSpare := fun _ _ _ _ _ => rfl
  refine homePlace_congr ?_
  cases hr : lineRecord s l with
  | some r =>
    rw [receiveEvent_scored hhome ⟨l, g, .correction c⟩ r s hr]
    rfl
  | none =>
    cases hm : makeRoom s.table with
    | some room =>
      rw [receiveEvent_created hhome ⟨l, g, .correction c⟩ s hr hm]
      rfl
    | none =>
      rw [receiveEvent_untracked _ s hr hm, lineRecord_congr (t := s) (by simp), hr]

/-- The operation at the head of the order has closed its read and stands at its write half. -/
theorem headOp_halfWritten {s v : State} {l : LineAddr} {o : Op} (data : LineData) (ho : headOp s l = some o)
    (hv : v.ops = s.ops) : headOp (halfWritten v l data) l =
      some { o with stage := .writing (writeTargets v l) (.data data) v.stamps, openRead := none } := by
  rw [headOp, halfWritten, hv, find_modifyFirst]
  · exact congrArg (Option.map _) ho
  · exact fun _ h => h

end Sys2Proof.Machine
end

section
/-! PROOFS. The outcomes of masked writes, and what orphans do (O18, O19). -/

namespace Sys2Proof.Machine

/-! ### The masked write's outcomes -/

/-- The write half over what leaves the line orders and the numbers of issue. -/
theorem halfWritten_eq {s v : State} (l : LineAddr) (data : LineData) (hops : v.ops = s.ops) (hstamps : v.stamps = s.stamps) :
    halfWritten v l data = { v with
      table := unpoisoned v l
      ops := modifyFirst (fun o => o.line == l) (fun o => { o with
        stage := .writing (writeTargets v l) (.data data) s.stamps
        openRead := none }) s.ops
      stamps := s.stamps + 1 } := by
  rw [halfWritten, hops, hstamps]

/-- Settles O18: the four outcomes of a read half, each from its own equation. -/
theorem maskedReadHalf : Obligations.MaskedReadHalf := by
  refine ⟨fun s l o t new enables hk ht => ⟨fun ho hst => ⟨fun hl => ?_, mwrReadHalfIssue_media ho hk hst⟩,
    fun damage p n ho hst hm => ?_, fun damage p ho hst => ?_⟩, fun s l => hostWriteGivenUp_none, mergeBytes_extract⟩
  · rw [mwrReadHalfIssue_listed ho hk hst hl, ht]
    rfl
  · exact ⟨_, _, read_reserved ho hst (.inr (.inl ⟨new, enables, hk, rfl⟩)) hm,
      headOp_staged (completing_head ho).1 (reserve_ops l p s), rfl, by simp, by simp, by simp, by simp⟩
  · rw [mwrReadHalfComplete_final ho hk hst]
    have hhead := (completing_head ho).1
    have hline := readLine_line s l p damage
    generalize readLine s l p damage = d at hline ⊢
    refine ⟨fun h => ?_, fun c h hc => ⟨_, rfl, ?_⟩, fun h => ?_, fun h => ⟨_, ?_, rfl, ?_⟩⟩
    · rw [finishReadHalf_clean new enables h]
      rfl
    · rw [finishReadHalf_corrected new enables hline h hc]
      have hops : (receiveEvent ⟨l, .maskedWrite, .correction c⟩ s).ops = s.ops := by simp
      have hstamps : (receiveEvent ⟨l, .maskedWrite, .correction c⟩ s).stamps = s.stamps := by simp
      refine ⟨halfWritten_eq l _ hops hstamps, ?_, ?_, receiveEvent_hostCorrected s rfl (.inr rfl)⟩
      · rw [headOp_halfWritten _ hhead hops, hstamps]
      · rw [← homePlace_correction l .maskedWrite c s]
        exact homePlace_mem_writeTargets _ l
    · rw [finishReadHalf_mark new enables hhead h, ht]
      rfl
    · rw [finishReadHalf_uncorrectable new enables hhead hline h, ht]
      rfl
    · have hret := returned_eq (s := s) l (.wret t .poisonKept)
        (v := requestWriteback l .mark o.overtaken (receiveEvent ⟨l, .maskedWrite, .uncorrectable⟩ s))
        (by simp) (by simp) (by simp) (by simp)
      exact ⟨congrArg State.linkOut hret, congrArg State.ops hret, wbQueue_after_event _ _ _ _ s,
        uncorrectable_after _ _ _ s⟩

/-! ### What an orphan sends and frees (R34, R51) -/

/-- No frame is sent, and as many tags are held as before. -/
def Silent (s u : State) : Prop := u.linkOut = s.linkOut ∧ occupancy u = occupancy s

theorem Silent.refl (s : State) : Silent s s := ⟨rfl, rfl⟩

theorem Silent.trans {s u v : State} (h : Silent s u) (k : Silent u v) : Silent s v :=
  ⟨k.1.trans h.1, k.2.trans h.2⟩

theorem silent_of_ops {s u : State} (hlink : u.linkOut = s.linkOut) (hops : u.ops = s.ops) : Silent s u :=
  ⟨hlink, by rw [occupancy, occupancy, hops]⟩

/-- The head of an order may change in everything but its tag. -/
theorem silent_of_modifyFirst {s u : State} {l : LineAddr} {f : Op → Op} (hlink : u.linkOut = s.linkOut)
    (hops : u.ops = modifyFirst (fun o => o.line == l) f s.ops) (hf : ∀ o, (f o).tag = o.tag) : Silent s u := by
  refine ⟨hlink, ?_⟩
  have htags : u.ops.map Op.tag = s.ops.map Op.tag := by rw [hops, map_modifyFirst _ _ _ _ hf]
  have hcount (ops : List Op) : ops.countP (fun o => o.tag.isSome) = (ops.map Op.tag).countP Option.isSome := by
    rw [List.countP_map]
    rfl
  rw [occupancy, occupancy, hcount, hcount, htags]

section
variable {s : State} {l : LineAddr} {o : Op}

/-- An orphan leaves its order: no tag is freed. -/
theorem unanswered_silent (ho : headOp s l = some o) (ht : o.tag = none) : Silent s (unanswered l s) := by
  refine ⟨rfl, ?_⟩
  have hcount := countP_eraseP_head s.ops l o ho
  rw [ht, Option.isSome_none, if_neg Bool.false_ne_true, Nat.sub_zero] at hcount
  exact hcount

theorem finishRequest_silent (f : Tag → OutFrame) (ho : headOp s l = some o) (ht : o.tag = none) :
    Silent s (finishRequest l o f s) := by
  rw [finishRequest_ended f ho, ht]
  exact unanswered_silent ho ht

/-- An orphan ends after what keeps the orders and sends nothing. -/
theorem finishRequest_silent_after {v : State} (f : Tag → OutFrame) (ho : headOp s l = some o) (ht : o.tag = none)
    (hlink : v.linkOut = s.linkOut) (hops : v.ops = s.ops) : Silent s (finishRequest l o f v) :=
  (silent_of_ops hlink hops).trans (finishRequest_silent f ((headOp_congr hops l).trans ho) ht)

theorem completeRead_silent_after {v : State} (status : ReadStatus) (data : LineData) (ho : headOp s l = some o)
    (ht : o.tag = none) (hlink : v.linkOut = s.linkOut) (hops : v.ops = s.ops) :
    Silent s (completeRead l o status data v) :=
  finishRequest_silent_after _ ho ht hlink hops

theorem performRead_silent (ho : headOp s l = some o) (ht : o.tag = none) : Silent s (performRead l o s) := by
  unfold performRead
  dsimp only
  split
  · exact completeRead_silent_after _ _ ho ht rfl rfl
  · split
    · exact completeRead_silent_after _ _ ho ht rfl rfl
    · exact completeRead_silent_after _ _ ho ht rfl rfl
    · exact silent_of_modifyFirst rfl rfl fun _ => rfl

theorem finishRead_silent (d : Decode) (ho : headOp s l = some o) (ht : o.tag = none) :
    Silent s (finishRead l o d s) := by
  refine completeRead_silent_after _ _ ho ht ?_ ?_ <;> split <;> simp

theorem performWrite_silent (data : LineData) (s : State) : Silent s (performWrite l data s) :=
  silent_of_modifyFirst rfl rfl fun _ => rfl

theorem finishWrite_silent (targets : List Place) (content : LineContent) (ho : headOp s l = some o) (ht : o.tag = none) :
    Silent s (finishWrite l o targets content s) :=
  finishRequest_silent_after _ ho ht (by simp) (by simp)

/-- The copy write that a host write has given up for holds no tag. -/
theorem hostWriteGivenUp_silent (s : State) : Silent s (hostWriteGivenUp l s) := by
  unfold hostWriteGivenUp
  split
  · split
    · exact Silent.refl s
    · cases hst : s.engine.step with
      | none =>
        simp only [issueCopyWrite, hst]
        exact Silent.refl s
      | some st =>
        rw [issueCopyWrite_some hst]
        exact ⟨rfl, by simp [occupancy]⟩
  · exact Silent.refl s

theorem keepPoison_silent_after {v : State} (ho : headOp s l = some o) (ht : o.tag = none)
    (hlink : v.linkOut = s.linkOut) (hops : v.ops = s.ops) : Silent s (keepPoison l o v) :=
  (finishRequest_silent_after _ ho ht hlink hops).trans (hostWriteGivenUp_silent _)

theorem closeRead_silent (s : State) : Silent s (closeRead l s) :=
  silent_of_modifyFirst rfl rfl fun _ => rfl

theorem finishReadHalf_silent (new : LineData) (enables : BitVec 64) (d : Decode) (ho : headOp s l = some o)
    (ht : o.tag = none) : Silent s (finishReadHalf l o new enables d s) := by
  have hlink : (handMark d o.overtaken (handEvent d .maskedWrite s)).linkOut = s.linkOut := by simp
  have hops : (handMark d o.overtaken (handEvent d .maskedWrite s)).ops = s.ops := by simp
  have hwrite (data : LineData) : Silent s (performWrite l data (closeRead l
      (handMark d o.overtaken (handEvent d .maskedWrite s)))) :=
    ((silent_of_ops hlink hops).trans (closeRead_silent _)).trans (performWrite_silent data _)
  unfold finishReadHalf
  dsimp only
  split
  · exact hwrite _
  · exact hwrite _
  · exact keepPoison_silent_after ho ht hlink hops
  · exact keepPoison_silent_after ho ht hlink hops

theorem reserve_silent (p : Place) (s : State) : Silent s (reserve l p s) :=
  silent_of_modifyFirst (by simp) (reserve_ops l p s) fun _ => rfl

theorem completing_of_head (ho : headOp s l = some o) : completing s l = none ∨ completing s l = some o := by
  cases h : completing s l with
  | none => exact .inl rfl
  | some o' => exact .inr (by rw [← (completing_head h).1, ho])

/-! Command by command: what it makes of an orphan sends nothing and frees no tag. -/

variable {u : State}

theorem rdIssue_silent (ho : headOp s l = some o) (ht : o.tag = none) (h : exec (.rdIssue l) s = .next u) : Silent s u := by
  cases h
  simp only [ho]
  split
  · exact performRead_silent ho ht
  · exact Silent.refl s

theorem wrIssue_silent (ho : headOp s l = some o) (h : exec (.wrIssue l) s = .next u) : Silent s u := by
  cases h
  simp only [ho]
  split
  · exact performWrite_silent _ s
  · exact Silent.refl s

theorem wrWriteComplete_silent (ho : headOp s l = some o) (ht : o.tag = none) (h : exec (.wrWriteComplete l) s = .next u) :
    Silent s u := by
  cases h
  rcases completing_of_head ho with hc | hc <;> simp only [hc]
  · exact Silent.refl s
  · split
    · exact finishWrite_silent _ _ ho ht
    · exact Silent.refl s

theorem mwrReadHalfIssue_silent (ho : headOp s l = some o) (ht : o.tag = none)
    (h : exec (.mwrReadHalfIssue l) s = .next u) : Silent s u := by
  cases h
  simp only [ho]
  split
  · split
    · exact keepPoison_silent_after ho ht rfl rfl
    · exact silent_of_modifyFirst rfl rfl fun _ => rfl
  · exact Silent.refl s

theorem mwrWriteHalfComplete_silent (ho : headOp s l = some o) (ht : o.tag = none)
    (h : exec (.mwrWriteHalfComplete l) s = .next u) : Silent s u := by
  cases h
  rcases completing_of_head ho with hc | hc <;> simp only [hc]
  · exact Silent.refl s
  · split
    · exact finishWrite_silent _ _ ho ht
    · exact Silent.refl s

theorem rdMediaReadComplete_silent {damage : StoredLine} (ho : headOp s l = some o) (ht : o.tag = none)
    (h : exec (.rdMediaReadComplete l damage) s = .next u) : Silent s u := by
  cases h
  rcases completing_of_head ho with hc | hc <;> simp only [hc]
  · exact Silent.refl s
  · split
    · split
      · exact reserve_silent _ s
      · exact finishRead_silent _ ho ht
    · exact finishRead_silent _ ho ht
    · exact Silent.refl s

theorem mwrReadHalfComplete_silent {damage : StoredLine} (ho : headOp s l = some o) (ht : o.tag = none)
    (h : exec (.mwrReadHalfComplete l damage) s = .next u) : Silent s u := by
  cases h
  rcases completing_of_head ho with hc | hc <;> simp only [hc]
  · exact Silent.refl s
  · split
    · split
      · exact reserve_silent _ s
      · exact finishReadHalf_silent _ _ _ ho ht
    · exact finishReadHalf_silent _ _ _ ho ht
    · exact Silent.refl s

end

/-! ### Orphans performed in full -/

/-- The completion of a host write that no copy step waits for: media and marked-column set, and the end of the request. -/
theorem finishWrite_ended {s : State} {l : LineAddr} {o : Op} (targets : List Place) (content : LineContent)
    (ho : headOp s l = some o) (ha : awaitedContent s l = none) :
    ∃ (m : Media) (marked : List Column),
      finishWrite l o targets content s = ended l o.tag (fun t => .wret t .done)
        { s with media := m, engine := { s.engine with marked := marked } } ∧
      Written s.media m l targets content ∧ MarkedFollows s l targets content marked := by
  obtain ⟨marked, he, hf⟩ := writeLine_followMarked l targets content s
  refine ⟨_, marked, ?_, writeLine_written l targets content s, hf⟩
  have hnone := awaitedContent_congr (s := followMarked l targets content (writeLine l targets content s)) (u := s)
    (by rw [he]) l
  rw [finishWrite, hostWriteEndsColumn_none (hnone.trans ha), he]
  exact finishRequest_ended _ ho

/-- A read that no return awaits ends the same whatever its column's listing. -/
theorem completeRead_orphan {v : State} {l : LineAddr} {o : Op} (status : ReadStatus) (data : LineData)
    (ho : headOp v l = some o) (ht : o.tag = none) : completeRead l o status data v = unanswered l v := by
  rw [completeRead]
  rw [finishRequest_ended _ ho, ht]
  rfl

section
variable {s : State} {l : LineAddr} {o : Op} {d : Decode}

theorem finishRead_orphan_clean (ho : headOp s l = some o) (ht : o.tag = none) (h : d.outcome = .clean) :
    finishRead l o d s = unanswered l s := by
  unfold finishRead
  dsimp only
  rw [handEvent_silent _ _ (.inl h), handWriteback_silent _ _ (.inl h), handVerify_other _ (by simp [h]), h]
  exact completeRead_orphan _ _ ho ht

theorem finishRead_orphan_corrected {c : Cell} (ho : headOp s l = some o) (ht : o.tag = none) (hline : d.line = l)
    (h : d.outcome = .corrected) (hc : d.cell = some c) : finishRead l o d s = unanswered l
      (requestVerify l (requestWriteback l (.data d.data) o.overtaken (receiveEvent ⟨l, .hostRead, .correction c⟩ s))) := by
  unfold finishRead
  dsimp only
  rw [handEvent_corrected _ _ h hc, handWriteback_corrected _ _ h, handVerify_corrected _ h, hline, h]
  exact completeRead_orphan _ _ (by rw [headOp_congr (s := s) (by simp), ho]) ht

/-- An orphan read with its four outcomes, listed column or not. -/
theorem finishRead_orphan (ho : headOp s l = some o) (ht : o.tag = none) (hline : d.line = l) :
    (d.outcome = .clean → finishRead l o d s = unanswered l s) ∧
    (d.outcome = .mark → finishRead l o d s = unanswered l (count .poisonReads s)) ∧
    (∀ c : Cell, d.outcome = .corrected → d.cell = some c → finishRead l o d s = unanswered l
      (requestVerify l (requestWriteback l (.data d.data) o.overtaken (receiveEvent ⟨l, .hostRead, .correction c⟩ s)))) ∧
    (d.outcome = .uncorrectable → finishRead l o d s = unanswered l
      (requestWriteback l .mark o.overtaken (receiveEvent ⟨l, .hostRead, .uncorrectable⟩ s))) := by
  refine ⟨finishRead_orphan_clean ho ht, fun h => ?_, fun c h hc => finishRead_orphan_corrected ho ht hline h hc,
    fun h => ?_⟩
  · rw [finishRead_mark ho h, ht]
    rfl
  · rw [finishRead_uncorrectable ho hline h, ht]
    rfl

end

/-- Settles O19: the equations of the requests with a tag, at no tag. -/
theorem orphansSendNothing : Obligations.OrphansSendNothing := by
  refine ⟨fun s u c l o ho ht hc h => ?_, fun s l o ho ht hk hst =>
      ⟨fun hl => ?_, fun hl => ⟨fun d hw => ?_, fun hw => ?_⟩⟩,
    fun s l damage o p ho ht hst => ⟨fun hk => ?_, fun new enables hk => ?_⟩, fun s l o new enables ho ht hk hst hl => ?_,
    fun s l o c ho ht hst hl hc => ?_, fun s l o targets content n c ho ht hst hc ha => ?_⟩
  · rcases hc with rfl | rfl | rfl | rfl | rfl | ⟨damage, rfl | rfl⟩
    exacts [rdIssue_silent ho ht h, wrIssue_silent ho h, wrWriteComplete_silent ho ht h, mwrReadHalfIssue_silent ho ht h,
      mwrWriteHalfComplete_silent ho ht h, rdMediaReadComplete_silent ho ht h, mwrReadHalfComplete_silent ho ht h]
  · rw [rdIssue_eq ho hk hst, performRead_listed ho hl, ht, count_poisonReads]
    rfl
  · rw [rdIssue_eq ho hk hst, performRead_data ho hl hw, ht]
    rfl
  · rw [rdIssue_eq ho hk hst, performRead_mark ho hl hw, ht, count_poisonReads]
    rfl
  · rw [rdMediaReadComplete_final ho hk hst]
    have hhead := (completing_head ho).1
    have hline := readLine_line s l p damage
    generalize readLine s l p damage = d at hline ⊢
    obtain ⟨hclean, hmark, hcorrected, huncorrectable⟩ := finishRead_orphan (d := d) hhead ht hline
    refine ⟨fun h => congrArg _ (hclean h), fun h => ?_, fun c h hc => ⟨_, congrArg _ (hcorrected c h hc), rfl, ?_⟩,
      fun h => ⟨_, congrArg _ (huncorrectable h), rfl, ?_, wbQueue_after_event _ _ _ _ s, uncorrectable_after _ _ _ s⟩⟩
    · rw [hmark h, count_poisonReads]
    · exact ⟨by simp [unanswered], corrected_requests (l := l) c (.data d.data) o.overtaken s⟩
    · simp [unanswered]
  · rw [mwrReadHalfComplete_final ho hk hst]
    have hhead := (completing_head ho).1
    have hline := readLine_line s l p damage
    generalize readLine s l p damage = d at hline ⊢
    refine ⟨fun h => ?_, fun c h hc => ?_, fun h => ?_, fun h => ?_⟩
    · rw [finishReadHalf_clean new enables h]
      rfl
    · rw [finishReadHalf_corrected new enables hline h hc, halfWritten_eq (s := s) l _ (by simp) (by simp)]
    · rw [finishReadHalf_mark new enables hhead h, ht]
      rfl
    · rw [finishReadHalf_uncorrectable new enables hhead hline h, ht]
      rfl
  · rw [mwrReadHalfIssue_listed ho hk hst hl, ht]
    rfl
  · rcases hc with ⟨hk, hw, rfl⟩ | ⟨new, enables, hk, rfl⟩
    · rw [rdIssue_eq ho hk hst, performRead_media hl hw]
    · exact mwrReadHalfIssue_media ho hk hst hl
  · obtain ⟨m, marked, he, hspec⟩ := finishWrite_ended targets content (completing_head ho).1 ha
    rw [ht] at he
    exact ⟨m, marked, (write_complete ho hst hc).trans (congrArg _ he), hspec⟩

end Sys2Proof.Machine
end

section
/-! PROOFS. The slot of a new record, and the record that is evicted for it (O24). -/

namespace Sys2Proof.Machine

/-! ### The lowest free slot (R57) -/

theorem lowestSlot_some {t : List Record} {n : Fin 256} :
    lowestSlot t = some n ↔ (∀ r ∈ t, r.slot ≠ n) ∧ ∀ m : Fin 256, m < n → ∃ r ∈ t, r.slot = m := by
  rw [lowestSlot, List.find?_eq_some_iff_getElem]
  simp only [List.all_eq_true, bne_iff_ne, List.getElem_finRange, List.length_finRange]
  constructor
  · rintro ⟨hfree, i, hi, rfl, hlow⟩
    exact ⟨hfree, fun m hm => by simpa using hlow m.val hm⟩
  · rintro ⟨hfree, hlow⟩
    exact ⟨hfree, n.val, n.isLt, rfl, fun j hj => by simpa using hlow ⟨j, hj.trans n.isLt⟩ hj⟩

theorem lowestSlot_none {t : List Record} : lowestSlot t = none ↔ ∀ n : Fin 256, ∃ r ∈ t, r.slot = n := by
  simp [lowestSlot, List.find?_eq_none]

/-! ### The record evicted (R64) -/

theorem Record.evictable_iff (r : Record) :
    r.evictable = true ↔ r.state = .watch ∧ r.pinned = false ∧ r.poison = [] ∧ r.overflow = false := by
  simp [Record.evictable, and_assoc]

theorem Record.not_evictable_iff (r : Record) :
    r.evictable = false ↔ r.state ≠ .watch ∨ r.pinned = true ∨ r.poison ≠ [] ∨ r.overflow = true := by
  rw [← Bool.not_eq_true, r.evictable_iff]
  simp only [not_and_or, Bool.not_eq_false, ne_eq]

/-- Of the head and the choice among the rest, the head is taken when it may be evicted and weighs no more (R64). -/
theorem victim_cons (r : Record) (l : List Record) : victim (r :: l) =
    if r.evictable = true ∧ ∀ v, victim l = some v → r.weight ≤ v.weight then some r else victim l := by
  rw [victim]
  cases victim l <;> simp

theorem victim_none {t : List Record} : victim t = none ↔ ∀ r ∈ t, r.evictable = false := by
  induction t with
  | nil => simp [victim]
  | cons r l ih =>
    rw [victim_cons]
    split
    · next h => simp [h.1]
    · next h =>
      rw [ih, List.forall_mem_cons, and_iff_right_of_imp]
      intro hl
      rw [← ih] at hl
      simpa [hl] using h

theorem victim_mem {t : List Record} {v : Record} (h : victim t = some v) : v ∈ t := by
  induction t with
  | nil => cases h
  | cons r l ih =>
    rw [victim_cons] at h
    split at h
    · exact Option.some.inj h ▸ List.mem_cons_self
    · exact List.mem_cons_of_mem _ (ih h)

theorem victim_least {t : List Record} {v : Record} (h : victim t = some v) :
    v.evictable = true ∧ ∀ r ∈ t, r.evictable = true → v.weight ≤ r.weight := by
  induction t generalizing v with
  | nil => cases h
  | cons r l ih =>
    rw [victim_cons] at h
    rw [List.forall_mem_cons]
    split at h
    · next hr =>
      obtain rfl := Option.some.inj h
      refine ⟨hr.1, fun _ => le_rfl, fun x hx he => ?_⟩
      cases hl : victim l with
      | none => rw [victim_none.1 hl x hx] at he; cases he
      | some w => exact (hr.2 w hl).trans ((ih hl).2 x hx he)
    · next hr =>
      refine ⟨(ih h).1, fun he => ?_, (ih h).2⟩
      simp only [he, h, Option.some.injEq, forall_eq', true_and] at hr
      omega

/-- The choice is the earliest of the lightest that may be evicted (R64). -/
theorem victim_some {t : List Record} {v : Record} : victim t = some v ↔
    ∃ before after : List Record, t = before ++ v :: after ∧ v.evictable = true ∧
      (∀ r ∈ before, r.evictable = true → v.weight < r.weight) ∧
      (∀ r ∈ after, r.evictable = true → v.weight ≤ r.weight) := by
  constructor
  · intro h
    induction t with
    | nil => cases h
    | cons r l ih =>
      obtain ⟨hv, hleast⟩ := victim_least h
      rw [victim_cons] at h
      split at h
      · obtain rfl := Option.some.inj h
        exact ⟨[], l, rfl, hv, by simp, fun x hx => hleast x (List.mem_cons_of_mem _ hx)⟩
      · next hr =>
        obtain ⟨before, after, rfl, -, hbefore, hafter⟩ := ih h
        refine ⟨r :: before, after, rfl, hv, List.forall_mem_cons.2 ⟨fun he => ?_, hbefore⟩, hafter⟩
        simpa [he, h] using hr
  · rintro ⟨before, after, rfl, hv, hbefore, hafter⟩
    induction before with
    | nil =>
      rw [List.nil_append, victim_cons, if_pos]
      exact ⟨hv, fun w hw => hafter w (victim_mem hw) (victim_least hw).1⟩
    | cons r l ih =>
      rw [List.forall_mem_cons] at hbefore
      rw [List.cons_append, victim_cons, ih hbefore.2, if_neg]
      rintro ⟨he, hle⟩
      exact absurd (hle v rfl) (Nat.not_le.2 (hbefore.1 he))

/-! ### Room for a new record (R57, R62, R65) -/

theorem makeRoom_free_slot {t : List Record} {n : Fin 256} (h : lowestSlot t = some n) : makeRoom t = some (n, t) := by
  simp only [makeRoom, h]

theorem makeRoom_full {t : List Record} (h : ∀ n : Fin 256, ∃ r ∈ t, r.slot = n) :
    makeRoom t = (victim t).map fun v => (v.slot, t.filter fun r => r.slot != v.slot) := by
  simp only [makeRoom, lowestSlot_none.2 h]

/-- The room made: every record stays but for at most one that may be evicted, and the slot is free. -/
theorem makeRoom_some {t t' : List Record} {n : Fin 256} (h : makeRoom t = some (n, t')) :
    (t' = t ∧ ∀ r ∈ t, r.slot ≠ n) ∨
      ∃ v ∈ t, v.evictable = true ∧ n = v.slot ∧ t' = t.filter fun r => r.slot != v.slot := by
  unfold makeRoom at h
  split at h
  · next m hm =>
    cases h
    exact .inl ⟨rfl, (lowestSlot_some.1 hm).1⟩
  · obtain ⟨v, hv, he⟩ := Option.map_eq_some_iff.1 h
    cases he
    exact .inr ⟨v, victim_mem hv, (victim_least hv).1, rfl, rfl⟩

theorem createRecord_some {key : RowKey} {origin : Origin} {change : Record → Record} {s : State} {n : Fin 256}
    {t : List Record} (h : makeRoom s.table = some (n, t)) :
    createRecord key origin change s =
      some (change (.fresh n key origin), s.setTable (t ++ [change (.fresh n key origin)])) := by
  rw [createRecord, h]
  rfl

theorem createRecord_none {key : RowKey} {origin : Origin} {change : Record → Record} {s : State}
    (h : makeRoom s.table = none) : createRecord key origin change s = none := by
  rw [createRecord, h]
  rfl

/-- Settles O24: the choice of the record evicted by induction on the age list, and the creation into its slot. -/
theorem evictionChoosesLowestOldest : Obligations.EvictionChoosesLowestOldest := by
  refine ⟨fun table => ⟨?_, fun v hv => ?_⟩, fun s k origin hfull => ⟨fun hv => ?_, fun v hv => ?_⟩⟩
  · simp only [victim_none, Record.not_evictable_iff]
  · obtain ⟨before, after, ht, he, hbefore, hafter⟩ := victim_some.1 hv
    obtain ⟨hstate, hpinned, hpoison, hoverflow⟩ := v.evictable_iff.1 he
    exact ⟨before, after, ht, hstate, hpinned, hpoison, hoverflow, hbefore, hafter⟩
  · exact createRecord_none (by rw [makeRoom_full hfull, hv]; rfl)
  · exact createRecord_some (by rw [makeRoom_full hfull, hv]; rfl)

end Sys2Proof.Machine
end

section
/-! PROOFS. All that a command does to the fault table, the spare pool, the migration queue and the step in flight: a chain of
moves, each of one of the kinds below. The laws of O56 and O58 are kept by each kind, and so by every chain. -/

namespace Sys2Proof.Machine

/-! ### The moves -/

/-- `r'` is `r` in a change that neither sparing nor scoring reads, but that a poison list may lose columns. -/
structure Retouched (r r' : Record) : Prop where
  key : r'.key = r.key
  slot : r'.slot = r.slot
  state : r'.state = r.state
  urgent : r'.urgent = r.urgent
  homeSpare : r'.homeSpare = r.homeSpare
  destSpare : r'.destSpare = r.destSpare
  migration : r'.migration.isSome = r.migration.isSome
  weight : r'.weight = r.weight
  poison : r'.poison.Sublist r.poison

theorem Retouched.refl (r : Record) : Retouched r r := ⟨rfl, rfl, rfl, rfl, rfl, rfl, rfl, rfl, List.Sublist.refl _⟩

theorem Retouched.flags (r : Record) (pinned blocked persisted persistWanted : Bool) :
    Retouched r { r with pinned := pinned, blocked := blocked, persisted := persisted, persistWanted := persistWanted } :=
  ⟨rfl, rfl, rfl, rfl, rfl, rfl, rfl, rfl, List.Sublist.refl _⟩

theorem Retouched.filterPoison (r : Record) (p : Column → Bool) : Retouched r { r with poison := r.poison.filter p } :=
  ⟨rfl, rfl, rfl, rfl, rfl, rfl, rfl, rfl, List.filter_sublist⟩

theorem Retouched.mapMigration (r : Record) (f : MigSub → MigSub) : Retouched r { r with migration := r.migration.map f } :=
  ⟨rfl, rfl, rfl, rfl, rfl, rfl, Option.isSome_map, rfl, List.Sublist.refl _⟩

/-- A step in flight in `t` that is no leftover step is the one of `s` at another stage, or one of the migration in progress
in `s` (R150, R160). -/
def StepFollows (s t : State) : Prop :=
  ∀ st : MigStep, t.engine.step = some st → st.leftover = false →
    (∃ st₀ : MigStep, s.engine.step = some st₀ ∧ st₀.leftover = false ∧ st₀.line = st.line ∧ st₀.dest = st.dest) ∨
      ∃ r : Record, migrating s = some r ∧ r.key = lineKey st.line ∧ r.destSpare = some st.dest

theorem StepFollows.of_eq {s t : State} (h : t.engine.step = s.engine.step) : StepFollows s t :=
  fun st hst hl => .inl ⟨st, h ▸ hst, hl, rfl, rfl⟩

theorem StepFollows.of_none {s t : State} (h : t.engine.step = none) : StepFollows s t :=
  fun st hst => by rw [h] at hst; cases hst

/-- The kinds of change that commands make to records, spares, the migration queue and the step in flight. -/
inductive Move : State → State → Prop where
  /-- nothing of them but the step's stage, or a step issued for the migration in progress -/
  | aside {s t : State} (htable : t.table = s.table) (hspares : t.spares = s.spares) (hqueue : t.queue = s.queue)
      (hstep : StepFollows s t) : Move s t
  /-- every record retouched at most -/
  | retouch (s : State) (f : Record → Record) (hf : ∀ r, Retouched r (f r)) : Move s (s.setTable (s.table.map f))
  /-- an error event (R60) -/
  | event (ev : ErrorEvent) (s : State) : Move s (receiveEvent ev s)
  /-- decay (R96) -/
  | decay (s : State) : Move s (decayAll s)
  /-- a record made by a command (R65) -/
  | create {s t : State} {k : RowKey} {change : Record → Record} {r : Record} (hk : lookup s k = none)
      (hchange : ∀ r, Retouched r (change r)) (h : createRecord k .command change s = some (r, t)) : Move s t
  /-- RELEASE (R72) -/
  | release {s : State} {k : RowKey} {r : Record} (hr : lookup s k = some r) (hok : r.releasable = true) :
      Move s (releaseRecord k s)
  /-- FORCE_SPARE (R163) -/
  | enqueue {s : State} {k : RowKey} {r : Record} (hr : lookup s k = some r) (hm : r.state ≠ .migrating) (urgent : Bool) :
      Move s (enqueue k urgent s)
  /-- ABORT_MIGRATION of a record that waits (R164) -/
  | abortQueued {s : State} {k : RowKey} {r : Record} (hr : lookup s k = some r) (hq : r.state = .queued) :
      Move s (updateRecord k Record.abort (s.setQueue (s.queue.remove k)))
  /-- ABORT_MIGRATION of the migration in progress (R164) -/
  | abortMigrating {s : State} {r : Record} (hr : lookup s r.key = some r) (hm : r.state = .migrating) :
      Move s (abortMigrating r s)
  /-- an attempt fails on a read of its destination (R158, R159) -/
  | fail {s : State} {r : Record} {d : SpareIdx} (hr : lookup s r.key = some r) (hm : r.state = .migrating)
      (hd : r.destSpare = some d) : Move s (failAttempt r d s)
  /-- a check read is judged (R157) -/
  | judge {s : State} {st : MigStep} (hst : s.engine.step = some st) (hl : st.leftover = false) (outcome : LineOutcome) :
      Move s (judgeCheck st outcome (endStep s))
  /-- a VALID BAD_SPARE slot is processed (R170) -/
  | badSpare (b : SpareName) (s : State) : Move s (installBadSpare b s)

/-- A chain of moves. -/
def Moved : State → State → Prop := Relation.ReflTransGen Move

theorem Moved.refl (s : State) : Moved s s := Relation.ReflTransGen.refl

theorem Moved.trans {s t u : State} (h : Moved s t) (k : Moved t u) : Moved s u := Relation.ReflTransGen.trans h k

theorem Move.moved {s t : State} (h : Move s t) : Moved s t := Relation.ReflTransGen.single h

/-- What every move keeps, a chain of moves keeps. -/
theorem Moved.keeps {p : State → Prop} (hp : ∀ {s t : State}, Move s t → p s → p t) {s t : State} (h : Moved s t) (hs : p s) :
    p t := by
  induction h with
  | refl => exact hs
  | tail _ hm ih => exact hp hm ih

/-- Records, spares, queue and step as they were. -/
def RepairSame (s t : State) : Prop :=
  t.table = s.table ∧ t.spares = s.spares ∧ t.queue = s.queue ∧ t.engine.step = s.engine.step

theorem RepairSame.moved {s t : State} (h : RepairSame s t) : Moved s t := by
  obtain ⟨ht, hs, hq, hst⟩ := h
  exact (Move.aside ht hs hq (.of_eq hst)).moved

theorem updateRecord_moved (k : RowKey) {f : Record → Record} (hf : ∀ r, Retouched r (f r)) (s : State) :
    Moved s (updateRecord k f s) := by
  refine (Move.retouch s _ fun r => ?_).moved
  split
  · exact hf r
  · exact .refl r

/-! ### Events, decay, patrol and the persist engine -/

theorem handEvent_moved (d : Decode) (g : Origin) (s : State) : Moved s (handEvent d g s) := by
  unfold handEvent
  split
  · exact (Move.event _ s).moved
  · exact (Move.event _ s).moved
  · exact .refl s

theorem completePass_moved (s : State) : Moved s (completePass s) :=
  (RepairSame.moved (by simp [RepairSame])).trans (Move.decay _).moved

theorem advanceCursor_moved (s : State) : Moved s (advanceCursor s) := by
  unfold advanceCursor
  split
  · exact .refl s
  · next row pos wraps _ =>
    have hcursor : Moved s (s.setPatrol { s.patrol with row := row, pos := pos }) :=
      RepairSame.moved (by simp [RepairSame])
    dsimp only
    split
    · exact hcursor.trans (completePass_moved _)
    · exact hcursor

theorem setPatrol_moved (s : State) (p : Patrol) : Moved s (s.setPatrol p) := RepairSame.moved (by simp [RepairSame])

theorem completeRow_moved (s : State) : Moved s (completeRow s) :=
  (setPatrol_moved s _).trans (advanceCursor_moved _)

theorem beginRows_moved (n : Nat) (s : State) : Moved s (beginRows n s) := by
  induction n generalizing s with
  | zero => exact .refl s
  | succ n ih =>
    unfold beginRows
    split
    · refine (setPatrol_moved s { s.patrol with credits := s.patrol.credits - 1 }).trans ?_
      dsimp only
      split
      · split
        · exact (completeRow_moved _).trans (ih _)
        · exact setPatrol_moved _ _
      · exact setPatrol_moved _ _
    · exact .refl s

theorem beginRow_moved (s : State) : Moved s (beginRow s) := beginRows_moved _ s

theorem nextLine_moved (s : State) : Moved s (nextLine s) := by
  unfold nextLine
  split
  · split
    · exact setPatrol_moved s _
    · exact (completeRow_moved s).trans (beginRow_moved _)
  · exact .refl s

theorem maskChanged_moved (s : State) : Moved s (maskChanged s) := by
  have hpace : Moved s (restartPace s) := setPatrol_moved s _
  refine hpace.trans ?_
  unfold maskChanged
  dsimp only
  split
  · exact setPatrol_moved _ _
  · split
    · exact (advanceCursor_moved _).trans (beginRow_moved _)
    · exact beginRow_moved _

theorem storeFull_moved (s : State) : Moved s (storeFull s) :=
  (Move.retouch s (fun r => { r with persistWanted := false }) fun r => .flags r _ _ _ _).moved.trans
    (RepairSame.moved (by simp [RepairSame, storeFull]))

theorem beginProgram_moved (item : StoreItem) (n : Nat) (s : State) : Moved s (beginProgram item n s) := by
  unfold beginProgram
  split
  · exact RepairSame.moved (by simp [RepairSame])
  · exact storeFull_moved s

theorem startPersist_moved (s : State) : Moved s (startPersist s) := by
  unfold startPersist
  split
  · split
    · exact beginProgram_moved _ _ s
    · exact .refl s
  · exact .refl s

theorem ifStillHome_moved (k : RowKey) (i : SpareIdx) {f : Record → Record} (hf : ∀ r, Retouched r (f r)) (s : State) :
    Moved s (ifStillHome k i f s) := by
  refine updateRecord_moved k (fun r => ?_) s
  split
  · exact hf r
  · exact .refl r

theorem settleItem_moved (item : StoreItem) (s : State) : Moved s (settleItem item s) := by
  cases item with
  | badSpare b => exact RepairSame.moved (by simp [RepairSame, settleItem])
  | repair k i => exact ifStillHome_moved k i (fun r => .flags r _ _ _ _) s

theorem dropItem_moved (item : StoreItem) (s : State) : Moved s (dropItem item s) := by
  cases item with
  | badSpare b => exact RepairSame.moved (by simp [RepairSame, dropItem])
  | repair k i => exact ifStillHome_moved k i (fun r => .flags r _ _ _ _) s

theorem completeProgram_moved (p : Program) (ok : Bool) (s : State) : Moved s (completeProgram p ok s) := by
  unfold completeProgram
  split
  · refine Moved.trans ?_ ((settleItem_moved _ _).trans (startPersist_moved _))
    exact RepairSame.moved (by simp [RepairSame])
  · dsimp only
    split
    · exact (RepairSame.moved (by simp [RepairSame])).trans (beginProgram_moved _ _ _)
    · refine Moved.trans ?_ ((dropItem_moved _ _).trans (startPersist_moved _))
      exact RepairSame.moved (by simp [RepairSame])

/-! ### Requests -/

theorem reportFailure_moved (l : LineAddr) (d : SpareIdx) (s : State) : Moved s (reportFailure l d s) := by
  unfold reportFailure
  split
  · next r hr =>
    split
    · next hm =>
      obtain ⟨hmig, hd⟩ := (migratesOnto_iff r d).1 hm
      exact (Move.fail (by rw [lookup_key hr]; exact hr) hmig hd).moved
    · exact .refl s
  · exact .refl s

theorem reserve_moved (l : LineAddr) (p : Place) (s : State) : Moved s (reserve l p s) := by
  have hreread (t : State) (q : Place) : Moved t (issueReread l q t) := RepairSame.moved (by simp [RepairSame])
  cases p with
  | hostRow => exact hreread s _
  | spare d => exact (reportFailure_moved l d s).trans (hreread _ _)

theorem finishRead_moved (l : LineAddr) (o : Op) (d : Decode) (s : State) : Moved s (finishRead l o d s) := by
  refine (handEvent_moved d .hostRead s).trans (RepairSame.moved ?_)
  unfold finishRead
  dsimp only
  split <;> simp [RepairSame]

theorem performWrite_moved (l : LineAddr) (d : LineData) (s : State) : Moved s (performWrite l d s) :=
  (updateRecord_moved (lineKey l) (fun r => .filterPoison r fun c => c != lineColumn l) s).trans
    (RepairSame.moved (by simp [RepairSame, performWrite, clearPoison]))

theorem followMarked_same (l : LineAddr) (ts : List Place) (c : LineContent) (s : State) :
    RepairSame s (followMarked l ts c s) := by
  unfold followMarked
  (repeat' split) <;> simp [RepairSame]

theorem endStep_moved (s : State) : Moved s (endStep s) :=
  (Move.aside (by simp) (by simp) (by simp) (.of_none rfl)).moved

theorem endColumn_moved (l : LineAddr) (s : State) : Moved s (endColumn l s) := by
  refine (updateRecord_moved _ (fun r => ?_) s).trans (endStep_moved _)
  exact .mapMigration r _

theorem hostWriteEndsColumn_moved (l : LineAddr) (s : State) : Moved s (hostWriteEndsColumn l s) := by
  unfold hostWriteEndsColumn
  split
  · exact endColumn_moved l s
  · exact .refl s

theorem finishRequest_moved (l : LineAddr) (o : Op) (f : Tag → OutFrame) (s : State) : Moved s (finishRequest l o f s) :=
  RepairSame.moved (by simp [RepairSame])

theorem finishWrite_moved (l : LineAddr) (o : Op) (ts : List Place) (c : LineContent) (s : State) :
    Moved s (finishWrite l o ts c s) := by
  have hwrite : Moved s (writeLine l ts c s) := RepairSame.moved (by simp [RepairSame])
  exact hwrite.trans ((followMarked_same l ts c _).moved.trans ((hostWriteEndsColumn_moved l _).trans
    (finishRequest_moved l o _ _)))

theorem issueCopyWrite_moved (l : LineAddr) (c : LineContent) (s : State) : Moved s (issueCopyWrite l c s) := by
  cases hst : s.engine.step with
  | none =>
    rw [issueCopyWrite, hst]
    exact .refl s
  | some st =>
    refine (Move.aside (by simp) (by simp) (by simp) fun st' h hl => .inl ⟨st, hst, ?_⟩).moved
    rw [issueCopyWrite_some hst] at h
    obtain rfl := Option.some.inj h
    exact ⟨hl, rfl, rfl⟩

theorem keepPoison_moved (l : LineAddr) (o : Op) (s : State) : Moved s (keepPoison l o s) := by
  refine (finishRequest_moved l o (fun t => .wret t .poisonKept) s).trans ?_
  unfold keepPoison hostWriteGivenUp
  split
  · split
    · exact .refl _
    · exact issueCopyWrite_moved l _ _
  · exact .refl _

theorem handMark_moved (d : Decode) (b : Bool) (s : State) : Moved s (handMark d b s) :=
  RepairSame.moved (by simp [RepairSame])

theorem finishReadHalf_moved (l : LineAddr) (o : Op) (data : LineData) (enables : BitVec 64) (d : Decode) (s : State) :
    Moved s (finishReadHalf l o data enables d s) := by
  have hclose (t : State) : Moved t (closeRead l t) := RepairSame.moved (by simp [RepairSame])
  refine (handEvent_moved d .maskedWrite s).trans ((handMark_moved d o.overtaken _).trans ?_)
  unfold finishReadHalf
  dsimp only
  cases d.outcome with
  | clean => exact (hclose _).trans (performWrite_moved l _ _)
  | corrected => exact (hclose _).trans (performWrite_moved l _ _)
  | uncorrectable => exact keepPoison_moved l o _
  | mark => exact keepPoison_moved l o _

/-! ### Background operations and migration steps -/

theorem issueStep_moved (s : State) : Moved s (issueStep s) := by
  refine (Move.aside (by simp) (by simp) (by simp) fun st hst hl => ?_).moved
  unfold issueStep at hst
  split at hst
  · next r hr =>
    split at hst
    · next d m hd _ =>
      split at hst <;> obtain rfl := Option.some.inj hst <;>
        exact .inr ⟨r, hr, (lineKey_lineOf _ _).symm, hd⟩
    · exact .inl ⟨st, hst, hl, rfl, rfl⟩
  · exact .inl ⟨st, hst, hl, rfl, rfl⟩

theorem issueFor_moved (c : Claimant) (s : State) : Moved s (issueFor c s) := by
  cases c with
  | migration => exact issueStep_moved s
  | writeback => exact RepairSame.moved (by simp [RepairSame, issueFor])
  | patrol => exact RepairSame.moved (by simp [RepairSame, issueFor])
  | verify => exact RepairSame.moved (by simp [RepairSame, issueFor])

theorem finishVerify_moved (l : LineAddr) (o : Op) (d : Decode) (s : State) : Moved s (finishVerify l o d s) :=
  (handEvent_moved d .verify s).trans (RepairSame.moved (by simp [RepairSame, finishVerify]))

theorem leaveOrder_moved (l : LineAddr) (s : State) : Moved s (leaveOrder l s) := RepairSame.moved (by simp [RepairSame])

theorem afterCopyRead_moved {s : State} {st : MigStep} (content : LineContent) (hst : s.engine.step = some st) :
    Moved s (afterCopyRead st content s) := by
  unfold afterCopyRead
  split
  · exact endStep_moved s
  · split
    · refine (Move.aside (by simp) (by simp) (by simp) fun st' h hl => .inl ⟨st, hst, ?_⟩).moved
      obtain rfl := Option.some.inj h
      exact ⟨hl, rfl, rfl⟩
    · exact issueCopyWrite_moved _ _ s

/-! ### The management port -/

theorem setPort_moved (s : State) (p : Port) : Moved s (s.setPort p) := RepairSame.moved (by simp [RepairSame])

/-- A command on a record is a chain of moves when what it does to a record that is found is one. -/
theorem onRecord_moved {k : RowKey} {f : Record → State → State × Answer} {s : State}
    (hf : ∀ r : Record, lookup s k = some r → Moved s (f r s).1) : Moved s (onRecord k f s).1 := by
  unfold onRecord
  split
  · exact hf _ ‹_›
  · exact .refl s

theorem watchRow_moved (k : RowKey) (s : State) : Moved s (watchRow k s).1 := by
  unfold watchRow
  split
  · exact updateRecord_moved k (fun r => .flags r _ _ _ _) s
  · next hk =>
    split
    · next h => exact (Move.create hk (fun r => .flags r _ _ _ _) h).moved
    · exact .refl s

theorem lookup_created {s t : State} {k : RowKey} {g : Origin} {change : Record → Record} {r : Record}
    (hk : lookup s k = none) (hc : ∀ r, (change r).key = r.key) (h : createRecord k g change s = some (r, t)) :
    lookup t k = some r := by
  obtain ⟨n, table, hroom, rfl, rfl⟩ := createRecord_spec h
  have hnone : (table.find? fun r => r.key == k) = none := by
    rw [List.find?_eq_none]
    intro x hx
    simpa using lookup_eq_none.1 hk x (makeRoom_subset hroom x hx)
  simp [lookup, List.find?_append, hnone, hc, Record.fresh]

theorem forceQueue_moved {k : RowKey} {s : State} {r : Record} (hr : lookup s k = some r) (hm : r.state ≠ .migrating) :
    Moved s (forceQueue k s) := by
  refine (updateRecord_moved k (fun r => .flags r _ _ _ _) s).trans (Move.enqueue (r := { r with blocked := false }) ?_ hm
    true).moved
  rw [lookup_updateRecord _ _ _ (fun r => { r with blocked := false }) (fun _ h => h), if_pos rfl, hr]
  rfl

theorem forceSpareRow_moved (k : RowKey) (s : State) : Moved s (forceSpareRow k s).1 := by
  unfold forceSpareRow
  split
  · next r hr =>
    split
    · next h => exact forceQueue_moved hr (by simp [h])
    · next h => exact forceQueue_moved hr (by simp [h])
    · next h => exact forceQueue_moved hr (by simp [h])
    · next h =>
      split
      · exact .refl s
      · exact forceQueue_moved hr (by simp [h])
    · next h => exact (Move.enqueue hr (by simp [h]) true).moved
    · exact .refl s
  · next hk =>
    split
    · next r t h =>
      refine (Move.create hk Retouched.refl h).moved.trans
        (Move.enqueue (lookup_created hk (fun _ => rfl) h) ?_ true).moved
      obtain ⟨n, table, -, rfl, -⟩ := createRecord_spec h
      exact RecordState.noConfusion
    · exact .refl s

theorem abortRow_moved (k : RowKey) (s : State) : Moved s (abortRow k s).1 := by
  refine onRecord_moved fun r hr => ?_
  split
  · next h => exact (Move.abortMigrating (by rw [lookup_key hr]; exact hr) h).moved
  · next h => exact (Move.abortQueued hr h).moved
  all_goals exact .refl s

theorem persistRow_moved (k : RowKey) (s : State) : Moved s (persistRow k s).1 := by
  refine onRecord_moved fun r _ => ?_
  split
  · exact .refl s
  · split
    · exact (updateRecord_moved _ (fun r => .flags r _ _ _ _) s).trans (startPersist_moved _)
    · exact .refl s

theorem releaseRow_moved (k : RowKey) (s : State) : Moved s (releaseRow k s).1 := by
  refine onRecord_moved fun r hr => ?_
  split
  · next h => exact (Move.release hr h).moved
  · exact .refl s

theorem setParameter_moved (id : ParamId) (v : BitVec 32) (s : State) : Moved s (setParameter id v s).1 := by
  unfold setParameter
  dsimp only
  split
  · exact .refl s
  · have hset : Moved s (s.setParams (s.params.set (id.clamp v.toNat) id)) := RepairSame.moved (by simp [RepairSame])
    refine hset.trans ?_
    cases id with
    | period => exact setPatrol_moved _ _
    | bankMask => exact maskChanged_moved _
    | quietThreshold => exact RepairSame.moved (by simp [RepairSame, paramChanged])
    | _ => exact .refl _

/-- Every command's take-up is a chain of moves (R181). -/
theorem takeUp_moved (c : PortCommand) (s : State) : Moved s (takeUp c s).1 := by
  cases c with
  | findRecord k => exact onRecord_moved fun _ _ => .refl s
  | readRecord n =>
    simp only [takeUp, readRecord]
    split <;> exact .refl s
  | watchRow k => exact watchRow_moved k s
  | pin k => exact onRecord_moved fun _ _ => updateRecord_moved k (fun r => .flags r _ _ _ _) s
  | unpin k => exact onRecord_moved fun _ _ => updateRecord_moved k (fun r => .flags r _ _ _ _) s
  | release k => exact releaseRow_moved k s
  | forceSpare k => exact forceSpareRow_moved k s
  | abortMigration k => exact abortRow_moved k s
  | persist k => exact persistRow_moved k s
  | setParam id v => exact setParameter_moved id v s
  | clearCounters => exact RepairSame.moved (by simp [RepairSame, takeUp, clearAllCounters])
  | ackAttention f => exact RepairSame.moved (by simp [RepairSame, takeUp, acknowledge])
  | setAttentionMask e => exact RepairSame.moved (by simp [RepairSame, takeUp, enableFlags])
  | _ => exact .refl s

theorem checkAndDispatch_moved (code : Byte) (args : List Byte) (prompt : Bool) (s : State) :
    Moved s (checkAndDispatch code args prompt s) := by
  unfold checkAndDispatch
  split
  · exact setPort_moved s _
  · split
    · exact setPort_moved s _
    · split
      · exact setPort_moved s _
      · split
        · exact setPort_moved s _
        · split
          · exact (takeUp_moved _ s).trans (setPort_moved _ _)
          · exact setPort_moved s _

theorem commandTransaction_moved (code : Byte) (args : List Byte) (tail : Fin 8) (prompt : Bool) (s : State) :
    Moved s (commandTransaction code args tail prompt s) := by
  have hshift : Moved s (shiftOut (commandOut args.length tail) s) := setPort_moved s _
  unfold commandTransaction
  dsimp only
  split
  · exact hshift.trans ((setPort_moved _ _).trans (checkAndDispatch_moved _ _ _ _))
  · exact hshift

end Sys2Proof.Machine
end

section
/-! PROOFS. Every command but POWER_ON_RESET and LOAD_REPAIR_SLOT is a chain of moves. -/

namespace Sys2Proof.Machine

/-! ### The commands: load, gate and link -/

theorem execLoadBadSpareSlot_moved {s t : State} (h : execLoadBadSpareSlot s = .next t) : Moved s t := by
  obtain rfl := Host.Outcome.next.inj h
  split
  · split
    · next b _ => exact (Move.badSpare b s).moved.trans (RepairSame.moved (by simp [RepairSame]))
    · exact .refl s
  · exact .refl s

theorem execLoadCompletion_moved {s t : State} (h : execLoadCompletion s = .next t) : Moved s t := by
  obtain rfl := Host.Outcome.next.inj h
  split
  · have hconsume (u : State) : Moved u (consumePending u) := RepairSame.moved (by simp [RepairSame])
    refine Moved.trans ?_ ((beginRow_moved _).trans ((hconsume _).trans (startPersist_moved _)))
    exact RepairSame.moved (by simp [RepairSame])
  · exact .refl s

/-- The gate's pins, the timers but for the pace timer, and the frames change link, line orders and gate alone. -/
theorem gate_and_link_moved {c : Instr} {s t : State}
    (hc : c ∈ [.holdNAssertion, .holdNDeassertion, .holdTimerExpiry, .dwellTimerExpiry, .resetBegin, .resetEnd])
    (h : exec c s = .next t) : Moved s t := by
  simp only [List.mem_cons, List.not_mem_nil, or_false] at hc
  refine RepairSame.moved ?_
  rcases hc with rfl | rfl | rfl | rfl | rfl | rfl <;> obtain rfl := Host.Outcome.next.inj h <;> (repeat' split) <;>
    simp [RepairSame]

theorem faultLink_moved (s : State) : Moved s (faultLink s) := RepairSame.moved (by simp [RepairSame])

theorem execBadFrame_moved (cause : BadFrameCause) {s t : State} (h : execBadFrame cause s = .next t) : Moved s t := by
  obtain rfl := Host.Outcome.next.inj h
  split
  · exact faultLink_moved s
  all_goals exact .refl s

theorem execPaceTimerExpiry_moved {s t : State} (h : execPaceTimerExpiry s = .next t) : Moved s t := by
  obtain rfl := Host.Outcome.next.inj h
  split
  · have hearn : Moved s (earnCredit s) := RepairSame.moved (by simp [RepairSame])
    exact hearn.trans (beginRow_moved _)
  · exact .refl s

theorem exec_request_moved {c : Instr} {tag : Tag} {taken : State → State} (hc : requestTaken c = some (tag, taken))
    {s t : State} (h : exec c s = .next t) : Moved s t := by
  have htaken : RepairSame s (taken s) := by
    unfold requestTaken at hc
    split at hc <;> cases hc <;> simp [RepairSame]
  cases (exec_request hc s).symm.trans h
  unfold arrive
  split
  · split
    · exact faultLink_moved s
    · exact htaken.moved.trans (RepairSame.moved (by simp [RepairSame]))
  all_goals exact .refl s

/-! ### The commands: host requests performed -/

theorem execRdIssue_moved (l : LineAddr) {s t : State} (h : execRdIssue l s = .next t) : Moved s t := by
  obtain rfl := Host.Outcome.next.inj h
  split
  · split
    · exact RepairSame.moved (by simp [RepairSame])
    · exact .refl s
  · exact .refl s

theorem execRdMediaReadComplete_moved (l : LineAddr) (damage : StoredLine) {s t : State}
    (h : execRdMediaReadComplete l damage s = .next t) : Moved s t := by
  obtain rfl := Host.Outcome.next.inj h
  split
  · split
    · dsimp only
      split
      · exact reserve_moved l _ s
      · exact finishRead_moved l _ _ s
    · exact finishRead_moved l _ _ s
    · exact .refl s
  · exact .refl s

theorem execWrIssue_moved (l : LineAddr) {s t : State} (h : execWrIssue l s = .next t) : Moved s t := by
  obtain rfl := Host.Outcome.next.inj h
  split
  · split
    · exact performWrite_moved l _ s
    · exact .refl s
  · exact .refl s

theorem execWrWriteComplete_moved (l : LineAddr) {s t : State} (h : execWrWriteComplete l s = .next t) : Moved s t := by
  obtain rfl := Host.Outcome.next.inj h
  split
  · split
    · exact finishWrite_moved l _ _ _ s
    · exact .refl s
  · exact .refl s

theorem issueRead_moved (l : LineAddr) (p : Place) (via : Bool) (s : State) : Moved s (issueRead l p via s) :=
  RepairSame.moved (by simp [RepairSame])

theorem execMwrReadHalfIssue_moved (l : LineAddr) {s t : State} (h : execMwrReadHalfIssue l s = .next t) : Moved s t := by
  obtain rfl := Host.Outcome.next.inj h
  split
  · split
    · dsimp only
      split
      · exact keepPoison_moved l _ s
      · exact issueRead_moved l _ _ s
    · exact .refl s
  · exact .refl s

theorem execMwrReadHalfComplete_moved (l : LineAddr) (damage : StoredLine) {s t : State}
    (h : execMwrReadHalfComplete l damage s = .next t) : Moved s t := by
  obtain rfl := Host.Outcome.next.inj h
  split
  · split
    · dsimp only
      split
      · exact reserve_moved l _ s
      · exact finishReadHalf_moved l _ _ _ _ s
    · exact finishReadHalf_moved l _ _ _ _ s
    · exact .refl s
  · exact .refl s

theorem execMwrWriteHalfComplete_moved (l : LineAddr) {s t : State} (h : execMwrWriteHalfComplete l s = .next t) :
    Moved s t := by
  obtain rfl := Host.Outcome.next.inj h
  split
  · split
    · exact finishWrite_moved l _ _ _ s
    · exact .refl s
  · exact .refl s

/-! ### The commands: background operations and migration steps -/

theorem execBackgroundGrant_moved {s t : State} (h : execBackgroundGrant s = .next t) : Moved s t := by
  obtain rfl := Host.Outcome.next.inj h
  split
  · split
    · exact issueFor_moved _ s
    · exact .refl s
  · exact .refl s

theorem execWritebackPerform_moved {s t : State} (h : execWritebackPerform s = .next t) : Moved s t := by
  obtain rfl := Host.Outcome.next.inj h
  (repeat' split) <;> exact RepairSame.moved (by simp [RepairSame])

theorem execWritebackComplete_moved {s t : State} (h : execWritebackComplete s = .next t) : Moved s t := by
  obtain rfl := Host.Outcome.next.inj h
  split
  · next l _ =>
    split
    · split
      · next targets content _ _ _ =>
        have hwrite : Moved s (writeLine l targets content s) := RepairSame.moved (by simp [RepairSame])
        exact hwrite.trans ((followMarked_same l targets content _).moved.trans (RepairSame.moved (by simp [RepairSame])))
      · exact .refl s
    · exact .refl s
  · exact .refl s

theorem execVerifyReadPerform_moved {s t : State} (h : execVerifyReadPerform s = .next t) : Moved s t := by
  obtain rfl := Host.Outcome.next.inj h
  (repeat' split) <;> exact RepairSame.moved (by simp [RepairSame])

theorem execVerifyReadComplete_moved (damage : StoredLine) {s t : State} (h : execVerifyReadComplete damage s = .next t) :
    Moved s t := by
  obtain rfl := Host.Outcome.next.inj h
  split
  · split
    · split
      · dsimp only
        split
        · exact reserve_moved _ _ s
        · exact finishVerify_moved _ _ _ s
      · exact finishVerify_moved _ _ _ s
      · exact .refl s
    · exact .refl s
  · exact .refl s

theorem execPatrolLineReadPerform_moved {s t : State} (h : execPatrolLineReadPerform s = .next t) : Moved s t := by
  obtain rfl := Host.Outcome.next.inj h
  (repeat' split) <;> exact RepairSame.moved (by simp [RepairSame])

theorem execPatrolLineReadComplete_moved (damage : StoredLine) {s t : State}
    (h : execPatrolLineReadComplete damage s = .next t) : Moved s t := by
  obtain rfl := Host.Outcome.next.inj h
  split
  · next l _ =>
    split
    · split
      · next p _ _ _ _ =>
        refine (handEvent_moved (readLine s l p damage) .patrol s).trans (Moved.trans ?_ (nextLine_moved _))
        exact RepairSame.moved (by simp [RepairSame])
      · exact .refl s
    · exact .refl s
  · exact .refl s

theorem execCopyReadPerform_moved {s t : State} (h : execCopyReadPerform s = .next t) : Moved s t := by
  obtain rfl := Host.Outcome.next.inj h
  (repeat' split) <;> exact RepairSame.moved (by simp [RepairSame])

theorem execCopyReadComplete_moved (damage : StoredLine) {s t : State} (h : execCopyReadComplete damage s = .next t) :
    Moved s t := by
  obtain rfl := Host.Outcome.next.inj h
  split
  · next st o hop =>
    obtain ⟨hst, -, -⟩ := stepOp_eq_some hop
    split
    · refine (handEvent_moved _ .copy s).trans ((handMark_moved _ o.overtaken _).trans ((leaveOrder_moved st.line _).trans
        (afterCopyRead_moved _ ?_)))
      simp [handEvent_step, hst]
    · exact .refl s
  · exact .refl s

theorem execCopyWriteComplete_moved {s t : State} (h : execCopyWriteComplete s = .next t) : Moved s t := by
  obtain rfl := Host.Outcome.next.inj h
  split
  · next st o _ =>
    split
    · next targets content _ _ =>
      have hleft : Moved s (leaveOrder st.line (writeLine st.line targets content s)) :=
        RepairSame.moved (by simp [RepairSame])
      dsimp only
      split
      · exact hleft.trans (endStep_moved _)
      · exact hleft.trans ((followMarked_same _ _ _ _).moved.trans (endColumn_moved _ _))
    · exact .refl s
  · exact .refl s

theorem execCheckReadPerform_moved {s t : State} (h : execCheckReadPerform s = .next t) : Moved s t := by
  obtain rfl := Host.Outcome.next.inj h
  (repeat' split) <;> exact RepairSame.moved (by simp [RepairSame])

theorem execCheckReadComplete_moved (damage : StoredLine) {s t : State} (h : execCheckReadComplete damage s = .next t) :
    Moved s t := by
  obtain rfl := Host.Outcome.next.inj h
  split
  · next st o hop =>
    obtain ⟨hst, -, -⟩ := stepOp_eq_some hop
    split
    · refine (leaveOrder_moved st.line s).trans ?_
      dsimp only
      split
      · exact endStep_moved _
      · next hl => exact (Move.judge (by simpa using hst) (by simpa using hl) _).moved
    · exact .refl s
  · exact .refl s

theorem execPersistProgramComplete_moved (ok : Bool) {s t : State} (h : execPersistProgramComplete ok s = .next t) :
    Moved s t := by
  obtain rfl := Host.Outcome.next.inj h
  split
  · exact completeProgram_moved _ _ s
  · exact .refl s

/-! ### The commands: the management port -/

theorem execCommandTakeUp_moved {s t : State} (h : execCommandTakeUp s = .next t) : Moved s t := by
  obtain rfl := Host.Outcome.next.inj h
  split
  · next a _ =>
    have htake := (setPort_moved s { s.port with awaiting := none }).trans (takeUp_moved a.command _)
    dsimp only
    split
    · exact htake
    · exact htake.trans (setPort_moved _ _)
  · exact .refl s

theorem responseTransactionOf_moved (n : Nat) (tail : Fin 8) (s : State) : Moved s (responseTransactionOf n tail s) :=
  RepairSame.moved (by simp [RepairSame])

theorem exec_transaction_moved {c : Instr} {code : Byte} {args : List Byte} {tail : Fin 8} {prompt : Bool} {s t : State}
    (hc : transaction c = some (code, args, tail, prompt)) (h : exec c s = .next t) : Moved s t := by
  rcases exec_transaction hc s with he | he | he <;> cases he.symm.trans h
  · exact responseTransactionOf_moved _ _ s
  · exact RepairSame.moved (by simp [RepairSame])
  · exact commandTransaction_moved _ _ _ _ s

/-! ### Every command -/

theorem exec_moved {c : Instr} (hreset : ∀ lost held : Bool, c ≠ .powerOnReset lost held) (hload : c ≠ .loadRepairSlot)
    {s t : State} (h : exec c s = .next t) : Moved s t := by
  cases c with
  | powerOnReset lost held => exact absurd rfl (hreset lost held)
  | loadRepairSlot => exact absurd rfl hload
  | loadBadSpareSlot => exact execLoadBadSpareSlot_moved h
  | loadCompletion => exact execLoadCompletion_moved h
  | holdNAssertion => exact gate_and_link_moved (by simp) h
  | holdNDeassertion => exact gate_and_link_moved (by simp) h
  | holdTimerExpiry => exact gate_and_link_moved (by simp) h
  | dwellTimerExpiry => exact gate_and_link_moved (by simp) h
  | paceTimerExpiry => exact execPaceTimerExpiry_moved h
  | resetBegin => exact gate_and_link_moved (by simp) h
  | resetEnd => exact gate_and_link_moved (by simp) h
  | badFrame cause => exact execBadFrame_moved cause h
  | rd tag line => exact exec_request_moved rfl h
  | wr tag line data => exact exec_request_moved rfl h
  | mwr tag line data enables => exact exec_request_moved rfl h
  | rdIssue line => exact execRdIssue_moved line h
  | rdMediaReadComplete line damage => exact execRdMediaReadComplete_moved line damage h
  | wrIssue line => exact execWrIssue_moved line h
  | wrWriteComplete line => exact execWrWriteComplete_moved line h
  | mwrReadHalfIssue line => exact execMwrReadHalfIssue_moved line h
  | mwrReadHalfComplete line damage => exact execMwrReadHalfComplete_moved line damage h
  | mwrWriteHalfComplete line => exact execMwrWriteHalfComplete_moved line h
  | backgroundGrant => exact execBackgroundGrant_moved h
  | writebackPerform => exact execWritebackPerform_moved h
  | writebackComplete => exact execWritebackComplete_moved h
  | verifyReadPerform => exact execVerifyReadPerform_moved h
  | verifyReadComplete damage => exact execVerifyReadComplete_moved damage h
  | patrolLineReadPerform => exact execPatrolLineReadPerform_moved h
  | patrolLineReadComplete damage => exact execPatrolLineReadComplete_moved damage h
  | copyReadPerform => exact execCopyReadPerform_moved h
  | copyReadComplete damage => exact execCopyReadComplete_moved damage h
  | copyWriteComplete => exact execCopyWriteComplete_moved h
  | checkReadPerform => exact execCheckReadPerform_moved h
  | checkReadComplete damage => exact execCheckReadComplete_moved damage h
  | persistProgramComplete ok => exact execPersistProgramComplete_moved ok h
  | responseTransaction n tail =>
    obtain rfl := Host.Outcome.next.inj h
    exact responseTransactionOf_moved n tail s
  | commandTakeUp => exact execCommandTakeUp_moved h
  | _ => exact exec_transaction_moved rfl h

/-- A step is a reset of the part, a REPAIR slot of the load, or a chain of moves. -/
theorem step_moved {s t : State} (h : step s = .next t) :
    Moved s t ∨
      (∃ rest : List Instr, s.pending = .loadRepairSlot :: rest ∧ exec .loadRepairSlot (s.setPending rest) = .next t) ∨
      ∃ (lost held : Bool) (rest : List Instr), s.pending = .powerOnReset lost held :: rest ∧
        exec (.powerOnReset lost held) (s.setPending rest) = .next t := by
  obtain ⟨-, rfl⟩ | ⟨c, rest, hp, he⟩ := step_cases h
  · exact .inl (.refl t)
  · by_cases hload : c = .loadRepairSlot
    · exact .inr (.inl ⟨rest, by rw [hp, hload], hload ▸ he⟩)
    · by_cases hreset : ∃ lost held : Bool, c = .powerOnReset lost held
      · obtain ⟨lost, held, rfl⟩ := hreset
        exact .inr (.inr ⟨lost, held, rest, hp, he⟩)
      · have hpending : Moved s (s.setPending rest) := RepairSame.moved (by simp [RepairSame])
        exact .inl (hpending.trans (exec_moved (fun lost held e => hreset ⟨lost, held, e⟩) hload he))

end Sys2Proof.Machine
end

section
/-! PROOFS. The laws of the fault table, kept by every move (O56), for every law of single records that the changes of records
keep. -/

namespace Sys2Proof.Machine

/-! ### Keys and slots (R57) -/

section
variable {P : Record → Prop} {s t : State}

theorem tableLaw_map {f : Record → Record} (h : TableLaw s) (ht : t.table = s.table.map f)
    (hf : ∀ r ∈ s.table, (f r).key = r.key ∧ (f r).slot = r.slot) : TableLaw t := by
  have hk : (s.table.map f).map Record.key = s.table.map Record.key := by
    rw [List.map_map]; exact List.map_congr_left fun r hr => (hf r hr).1
  have hs : (s.table.map f).map Record.slot = s.table.map Record.slot := by
    rw [List.map_map]; exact List.map_congr_left fun r hr => (hf r hr).2
  rwa [TableLaw, ht, hk, hs]

theorem tableLaw_filter {p : Record → Bool} (h : TableLaw s) (ht : t.table = s.table.filter p) : TableLaw t := by
  rw [TableLaw, ht]
  exact ⟨h.1.sublist (List.filter_sublist.map _), h.2.sublist (List.filter_sublist.map _)⟩

theorem tableLaw_append {r : Record} (h : TableLaw s) (ht : t.table = s.table ++ [r]) (hk : ∀ x ∈ s.table, x.key ≠ r.key)
    (hs : ∀ x ∈ s.table, x.slot ≠ r.slot) : TableLaw t := by
  rw [TableLaw, ht, List.map_append, List.map_append]
  exact ⟨nodup_append_singleton h.1 (by simpa using hk), nodup_append_singleton h.2 (by simpa using hs)⟩

/-- A key has one record (R57). -/
theorem record_of_key (h : TableLaw s) {r x : Record} (hr : r ∈ s.table) (hx : x ∈ s.table) (hk : x.key = r.key) : x = r :=
  List.inj_on_of_nodup_map h.1 hx hr hk

theorem record_of_slot (h : TableLaw s) {r x : Record} (hr : r ∈ s.table) (hx : x ∈ s.table) (hs : x.slot = r.slot) : x = r :=
  List.inj_on_of_nodup_map h.2 hx hr hs

end

/-! ### The laws together -/

/-- `P` is a law of a single record that every change of a record keeps. -/
structure RecordLaw (P : Record → Prop) : Prop where
  fresh (n : Fin 256) (k : RowKey) (g : Origin) : P (.fresh n k g)
  retouched {r r' : Record} : Retouched r r' → P r → P r'
  score (p : Params) (ev : ErrorEvent) {r : Record} : P r → P (r.score p ev)
  decay (p : Params) {r : Record} : P r → P (r.decay p)
  /-- a change of what migration reads, in the same state or to one that rules no home spare in or out (R54) -/
  sparing {st : RecordState} (u : Bool) (d : Option SpareIdx) (m : Option MigSub) {r : Record} :
    st = r.state ∨ (st ≠ .watch ∧ st ≠ .spared) → P r → P { r with state := st, urgent := u, destSpare := d, migration := m }
  complete (d : SpareIdx) (b : Bool) {r : Record} : P r → P (r.complete d b)
  abort {r : Record} : P r → P r.abort

/-- The laws of the fault table, with `P` of every record (R55, R57). -/
structure Sound (P : Record → Prop) (s : State) : Prop where
  table : TableLaw s
  records : ∀ r ∈ s.table, P r ∧ DestinationLaw r

/-- A record that is not MIGRATING has no destination (R55). -/
theorem destination_none {r : Record} (h : DestinationLaw r) (hm : r.state ≠ .migrating) :
    r.destSpare = none ∧ r.migration = none := by
  have hno : (r.state == RecordState.migrating) = false := by simpa using hm
  obtain ⟨hd, hg⟩ := h
  exact ⟨by simpa [hno] using hd, by simpa [hno] using hg⟩

theorem destination_some {r : Record} (h : DestinationLaw r) (hm : r.state = .migrating) :
    ∃ (d : SpareIdx) (g : MigSub), r.destSpare = some d ∧ r.migration = some g := by
  obtain ⟨hd, hg⟩ := h
  obtain ⟨d, hd⟩ := Option.isSome_iff_exists.1 (hd.trans (by simp [hm]))
  obtain ⟨g, hg⟩ := Option.isSome_iff_exists.1 (hg.trans (by simp [hm]))
  exact ⟨d, g, hd, hg⟩

theorem destinationLaw_of_none {r : Record} (hd : r.destSpare = none) (hm : r.migration = none) (hs : r.state ≠ .migrating) :
    DestinationLaw r := by
  simp [DestinationLaw, hd, hm, hs]

theorem destinationLaw_settle {st : RecordState} (h : st ≠ .migrating) (r : Record) : DestinationLaw (r.settle st) :=
  destinationLaw_of_none rfl rfl h

theorem destinationLaw_startAttempt (d : SpareIdx) (n : Nat) (r : Record) : DestinationLaw (r.startAttempt d n) :=
  ⟨rfl, rfl⟩

theorem Retouched.scoreLaw {r r' : Record} (h : Retouched r r') (hr : ScoreLaw r) : ScoreLaw r' :=
  ⟨h.weight ▸ hr.1, h.poison.length_le.trans hr.2.1, hr.2.2.sublist h.poison⟩

theorem Retouched.destinationLaw {r r' : Record} (h : Retouched r r') (hr : DestinationLaw r) : DestinationLaw r' := by
  rw [DestinationLaw, h.destSpare, h.migration, h.state]
  exact hr

section
variable {P : Record → Prop} {s t : State}

theorem Sound.congr (h : Sound P s) (ht : t.table = s.table) : Sound P t := by
  refine ⟨?_, ?_⟩
  · rw [TableLaw, ht]; exact h.table
  · rw [ht]; exact h.records

theorem Sound.map {f : Record → Record} (h : Sound P s) (ht : t.table = s.table.map f)
    (hf : ∀ r ∈ s.table, ((f r).key = r.key ∧ (f r).slot = r.slot) ∧
      (P r → DestinationLaw r → P (f r) ∧ DestinationLaw (f r))) : Sound P t := by
  refine ⟨tableLaw_map h.table ht fun r hr => (hf r hr).1, fun x hx => ?_⟩
  rw [ht] at hx
  obtain ⟨r, hr, rfl⟩ := List.mem_map.1 hx
  exact (hf r hr).2 (h.records r hr).1 (h.records r hr).2

/-- A change of the record of one key. -/
theorem Sound.update {k : RowKey} {f : Record → Record} (h : Sound P s) (ht : t.table = (updateRecord k f s).table)
    (hf : ∀ r ∈ s.table, r.key = k → ((f r).key = r.key ∧ (f r).slot = r.slot) ∧
      (P r → DestinationLaw r → P (f r) ∧ DestinationLaw (f r))) : Sound P t := by
  refine h.map ht fun r hr => ?_
  split
  · next hk => exact hf r hr hk
  · exact ⟨⟨rfl, rfl⟩, fun a b => ⟨a, b⟩⟩

theorem Sound.filter {p : Record → Bool} (h : Sound P s) (ht : t.table = s.table.filter p) : Sound P t :=
  ⟨tableLaw_filter h.table ht, fun r hr => h.records r (List.mem_of_mem_filter (ht ▸ hr))⟩

theorem Sound.append {r : Record} (h : Sound P s) (ht : t.table = s.table ++ [r]) (hk : ∀ x ∈ s.table, x.key ≠ r.key)
    (hs : ∀ x ∈ s.table, x.slot ≠ r.slot) (hr : P r ∧ DestinationLaw r) : Sound P t := by
  refine ⟨tableLaw_append h.table ht hk hs, fun x hx => ?_⟩
  rw [ht, List.mem_append, List.mem_singleton] at hx
  rcases hx with hx | rfl
  · exact h.records x hx
  · exact hr

/-! ### Records changed -/

section
variable (hP : RecordLaw P)
include hP

theorem Sound.retouch {f : Record → Record} (h : Sound P s) (ht : t.table = s.table.map f) (hf : ∀ r, Retouched r (f r)) :
    Sound P t :=
  h.map ht fun r _ => ⟨⟨(hf r).key, (hf r).slot⟩, fun hr hd => ⟨hP.retouched (hf r) hr, (hf r).destinationLaw hd⟩⟩

theorem Sound.condemn (k : RowKey) (h : Sound P s) : Sound P (condemn k s) :=
  h.update (k := k) (f := Record.settle .condemned) (by simp [Machine.condemn]) fun r _ _ =>
    ⟨⟨rfl, rfl⟩, fun hr _ => ⟨hP.sparing _ _ _ (.inr (by decide)) hr, destinationLaw_settle (by decide) r⟩⟩

theorem Sound.startAttempt (k : RowKey) (d : SpareIdx) (n : Nat) (h : Sound P s) : Sound P (startAttempt k d n s) :=
  h.update (k := k) (f := Record.startAttempt d n) (by simp [Machine.startAttempt, updateRecord]) fun r _ _ =>
    ⟨⟨rfl, rfl⟩, fun hr _ => ⟨hP.sparing _ _ _ (.inr (by decide)) hr, destinationLaw_startAttempt d n r⟩⟩

theorem Sound.takeHeads (n : Nat) (h : Sound P s) : Sound P (takeHeads n s) := by
  induction n generalizing s with
  | zero => exact h
  | succ n ih =>
    unfold Machine.takeHeads
    split
    · exact h
    · split
      · exact h
      · next k rest _ =>
        have hq : Sound P (s.setQueue rest) := h.congr rfl
        dsimp only
        split
        · exact hq.startAttempt hP _ _ _
        · exact ih (hq.condemn hP _)

theorem Sound.serveQueue (h : Sound P s) : Sound P (serveQueue s) := h.takeHeads hP _

/-- The record of the key becomes QUEUED. -/
theorem Sound.queued {k : RowKey} {r : Record} (h : Sound P s) (hr : r ∈ s.table) (hk : r.key = k)
    (hm : r.state ≠ .migrating) (u : Bool)
    (ht : t.table = (updateRecord k (fun r => { r with state := .queued, urgent := u }) s).table) : Sound P t := by
  refine h.update ht fun x hx hxk => ?_
  obtain rfl := record_of_key h.table hr hx (hxk.trans hk.symm)
  refine ⟨⟨rfl, rfl⟩, fun hx hd => ⟨hP.sparing _ _ _ (.inr (by decide)) hx, ?_⟩⟩
  obtain ⟨hdest, hmig⟩ := destination_none hd hm
  exact destinationLaw_of_none hdest hmig (by simp)

theorem Sound.enqueue {k : RowKey} {r : Record} (h : Sound P s) (hr : r ∈ s.table) (hk : r.key = k)
    (hm : r.state ≠ .migrating) (u : Bool) : Sound P (enqueue k u s) :=
  Sound.serveQueue hP (h.queued hP hr hk hm u rfl)

theorem Sound.startPersist (h : Sound P s) : Sound P (startPersist s) := by
  have hfull : Sound P (storeFull s) :=
    h.retouch hP (f := fun r => { r with persistWanted := false }) (by simp [storeFull]) fun r => .flags r _ _ _ _
  unfold Machine.startPersist beginProgram
  split
  · split
    · split
      · exact h.congr rfl
      · exact hfull
    · exact h
  · exact h

end
end

/-! ### Events (R61, R85, R89, R92) -/

theorem Record.score_slot (p : Params) (ev : ErrorEvent) (r : Record) : (r.score p ev).slot = r.slot := by
  unfold Record.score
  split
  · rfl
  · unfold Record.lose
    dsimp only
    split
    · rfl
    · split <;> rfl

/-- Scoring leaves spares, migration and urgency (R85, R89). -/
theorem Record.score_sparing (p : Params) (ev : ErrorEvent) (r : Record) :
    (r.score p ev).homeSpare = r.homeSpare ∧ (r.score p ev).destSpare = r.destSpare ∧
      (r.score p ev).migration = r.migration ∧ (r.score p ev).urgent = r.urgent := by
  unfold Record.score
  split
  · exact ⟨rfl, rfl, rfl, rfl⟩
  · unfold Record.lose
    dsimp only
    split
    · exact ⟨rfl, rfl, rfl, rfl⟩
    · split <;> exact ⟨rfl, rfl, rfl, rfl⟩

theorem scoreLaw_correct (p : Params) (g : Origin) (c : Cell) {r : Record} (h : ScoreLaw r) : ScoreLaw (r.correct p g c) :=
  ⟨Nat.min_le_left _ _, h.2⟩

/-- A column joins the poison list only when it is not in it and the list holds fewer than four (R90). -/
theorem scoreLaw_lose (c : Column) {r : Record} (h : ScoreLaw r) : ScoreLaw (r.lose c) := by
  obtain ⟨-, hlen, hnodup⟩ := h
  unfold Record.lose
  dsimp only
  split
  · exact ⟨le_rfl, hlen, hnodup⟩
  · next hc =>
    split
    · next hlt =>
      refine ⟨le_rfl, ?_, nodup_append_singleton hnodup (by simpa using hc)⟩
      rw [List.length_append]
      exact hlt
    · exact ⟨le_rfl, hlen, hnodup⟩

theorem scoreLaw_score (p : Params) (ev : ErrorEvent) {r : Record} (h : ScoreLaw r) : ScoreLaw (r.score p ev) := by
  unfold Record.score
  split
  · exact scoreLaw_correct p _ _ h
  · exact scoreLaw_lose _ h

theorem destinationLaw_score (p : Params) (ev : ErrorEvent) {r : Record} (h : DestinationLaw r) :
    DestinationLaw (r.score p ev) := by
  obtain ⟨-, hdest, hmig, -⟩ := r.score_sparing p ev
  rw [DestinationLaw, hdest, hmig, r.score_state]
  exact h

/-- What each verdict says of the record that it is made of (R92 to R94). -/
theorem evaluate_cases (p : Params) (u : Bool) (r : Record) :
    evaluate p u r = .keep ∨
      ((evaluate p u r = .suspect ∨ evaluate p u r = .enqueue false ∨ evaluate p u r = .enqueue true) ∧
        (r.state = .watch ∨ r.state = .suspect ∨ r.state = .spared)) ∨
      evaluate p u r = .urge ∧ (r.state = .queued ∨ r.state = .migrating) := by
  have hopen : openVerdict p u r = .keep ∨ openVerdict p u r = .suspect ∨ openVerdict p u r = .enqueue false ∨
      openVerdict p u r = .enqueue true := by
    unfold openVerdict
    (repeat' split) <;> simp
  have hblocked : blockedVerdict p u r = .keep ∨ blockedVerdict p u r = .suspect := by
    unfold blockedVerdict
    split <;> simp
  cases hs : r.state with
  | watch | suspect =>
    simp only [evaluate, hs]
    split
    · rcases hblocked with h | h <;> simp [h]
    · rcases hopen with h | h | h | h <;> simp [h]
  | spared =>
    simp only [evaluate, hs]
    split
    · simp
    · rcases hopen with h | h | h | h <;> simp [h]
  | queued | migrating =>
    simp only [evaluate, hs]
    split <;> simp
  | condemned => simp [evaluate, hs]

section
variable {P : Record → Prop} {s : State} (hP : RecordLaw P)
include hP

/-- The evaluation leaves a QUEUED or MIGRATING record so (R94). -/
theorem Sound.applyVerdict {r : Record} (h : Sound P s) (hr : r ∈ s.table) (p : Params) (u : Bool) :
    Sound P (applyVerdict r (evaluate p u r) s) := by
  have hd := (h.records r hr).2
  have hone {f : Record → Record} (hf : ((f r).key = r.key ∧ (f r).slot = r.slot) ∧
      (P r → DestinationLaw r → P (f r) ∧ DestinationLaw (f r))) : Sound P (updateRecord r.key f s) :=
    h.update rfl fun x hx hk => record_of_key h.table hr hx hk ▸ hf
  rcases evaluate_cases p u r with hv | ⟨hv | hv | hv, hst⟩ | ⟨hv, hst⟩ <;> rw [hv]
  · exact h
  · refine hone ⟨⟨rfl, rfl⟩, fun hr _ => ⟨hP.sparing _ _ _ (.inr (by decide)) hr, ?_⟩⟩
    obtain ⟨hdest, hmig⟩ := destination_none hd (by rcases hst with e | e | e <;> simp [e])
    exact destinationLaw_of_none hdest hmig (by simp)
  · exact h.enqueue hP hr rfl (by rcases hst with e | e | e <;> simp [e]) false
  · exact h.enqueue hP hr rfl (by rcases hst with e | e | e <;> simp [e]) true
  · unfold Machine.applyVerdict
    dsimp only
    split
    · next hq => exact h.enqueue hP hr rfl (by simp [hq]) true
    · exact hone ⟨⟨rfl, rfl⟩, fun hr hd => ⟨hP.sparing _ _ _ (.inl rfl) hr, hd⟩⟩

omit hP in
/-- The table that the event's record stands in once it is scored. -/
theorem mem_scored {ev : ErrorEvent} {r : Record} (hr : r ∈ s.table) :
    r.score s.params ev ∈ (updateRecord r.key (fun _ => r.score s.params ev) s).table :=
  List.mem_map.2 ⟨r, hr, if_pos rfl⟩

theorem Sound.scored (ev : ErrorEvent) {r : Record} (h : Sound P s) (hr : r ∈ s.table) :
    Sound P (updateRecord r.key (fun _ => r.score s.params ev) s) := by
  refine h.update rfl fun x hx hk => ?_
  obtain rfl := record_of_key h.table hr hx hk
  exact ⟨⟨Record.score_key _ _ _, Record.score_slot _ _ _⟩, fun hr hd => ⟨hP.score _ ev hr, destinationLaw_score _ ev hd⟩⟩

theorem Sound.applyEvent {ev : ErrorEvent} {r : Record} (h : Sound P s) (hr : r ∈ s.table) :
    Sound P (applyEvent ev r s) := by
  have hscored := h.scored hP ev hr
  unfold Machine.applyEvent
  dsimp only
  split
  · exact (hscored.congr (by simp) : Sound P (raise .uncorrectable _)).applyVerdict hP (by simpa using mem_scored hr) _ _
  · exact hscored.applyVerdict hP (mem_scored hr) _ _

omit hP in
/-- A new record that is lawful joins a lawful table (R57, R62). -/
theorem Sound.createRecord {k : RowKey} {g : Origin} {change : Record → Record} {r : Record} {t : State}
    (h : Sound P s) (hk : lookup s k = none) (hc : ∀ n, (change (.fresh n k g)).key = k ∧ (change (.fresh n k g)).slot = n ∧
      P (change (.fresh n k g)) ∧ DestinationLaw (change (.fresh n k g)))
    (hcreate : createRecord k g change s = some (r, t)) : Sound P t := by
  obtain ⟨n, table, hroom, rfl, rfl⟩ := createRecord_spec hcreate
  obtain ⟨hkey, hslot, hlawful⟩ := hc n
  have hrest : Sound P (s.setTable table) := by
    rcases makeRoom_some hroom with ⟨rfl, -⟩ | ⟨v, -, -, -, rfl⟩
    · exact h.congr rfl
    · exact h.filter rfl
  refine hrest.append rfl (fun x hx => ?_) (fun x hx => ?_) hlawful
  · rw [hkey]
    exact lookup_eq_none.1 hk x (makeRoom_subset hroom x hx)
  · rw [hslot]
    rcases makeRoom_some hroom with ⟨rfl, hfree⟩ | ⟨v, -, -, rfl, rfl⟩
    · exact hfree x hx
    · simpa using (List.mem_filter.1 hx).2

/-- A record made for an event or a command joins a lawful table. -/
theorem Sound.createRetouched {k : RowKey} {g : Origin} {change : Record → Record} {r : Record} {t : State} (h : Sound P s)
    (hk : lookup s k = none) (hchange : ∀ r, Retouched r (change r))
    (hcreate : Machine.createRecord k g change s = some (r, t)) : Sound P t := by
  refine h.createRecord hk (fun n => ?_) hcreate
  have hc := hchange (.fresh n k g)
  exact ⟨hc.key, hc.slot, hP.retouched hc (hP.fresh n k g), hc.destinationLaw ⟨rfl, rfl⟩⟩

theorem Sound.receiveEvent (ev : ErrorEvent) (h : Sound P s) : Sound P (receiveEvent ev s) := by
  have hcount : Sound P (countEvent ev s) := h.congr (by simp)
  unfold Machine.receiveEvent
  dsimp only
  split
  · next r hr => exact hcount.applyEvent hP (lookup_mem hr)
  · next hk =>
    split
    · next r t hcreate =>
      refine (hcount.createRetouched hP hk .refl hcreate).applyEvent hP ?_
      exact lookup_mem (lookup_created hk (fun _ => rfl) hcreate)
    · exact hcount.congr (by simp)

/-! ### Decay, migrations and the load -/

omit hP in
theorem destinationLaw_decay (p : Params) {r : Record} (h : DestinationLaw r) : DestinationLaw (r.decay p) := by
  unfold Record.decay
  dsimp only
  split
  · next hst =>
    obtain ⟨hdest, hmig⟩ := destination_none h (by simp [hst.1])
    exact destinationLaw_of_none hdest hmig (by dsimp only; split <;> simp)
  · exact h

omit hP in
theorem Record.decay_place (p : Params) (r : Record) : (r.decay p).key = r.key ∧ (r.decay p).slot = r.slot := by
  unfold Record.decay
  dsimp only
  split <;> exact ⟨rfl, rfl⟩

theorem Sound.decayAll (h : Sound P s) : Sound P (decayAll s) := by
  refine Sound.filter (s := s.setTable (s.table.map (Record.decay s.params))) (h.map rfl fun r _ => ?_) rfl
  exact ⟨r.decay_place _, fun hr hd => ⟨hP.decay _ hr, destinationLaw_decay _ hd⟩⟩

theorem Sound.failAttempt (r : Record) (d : SpareIdx) (h : Sound P s) : Sound P (failAttempt r d s) := by
  have hbase : Sound P (failedBase r d s) := by
    obtain ⟨-, -, htable, -⟩ := failedBase_spec r d s
    exact h.congr htable
  rcases failAttempt_cases r d s with ⟨d', n, -, he⟩ | he <;> rw [he]
  · exact (hbase.startAttempt hP _ _ _).startPersist hP
  · exact ((hbase.condemn hP _).serveQueue hP).startPersist hP

omit hP in
theorem destinationLaw_complete (d : SpareIdx) (b : Bool) (r : Record) : DestinationLaw (r.complete d b) :=
  destinationLaw_of_none rfl rfl RecordState.noConfusion

/-- A record of the table becomes SPARED on the spare that it was migrating onto. -/
theorem Sound.completed {t : State} (h : Sound P s) (k : RowKey) (d : SpareIdx) (b : Bool)
    (ht : t.table = (updateRecord k (Record.complete d b) s).table) : Sound P t :=
  h.update ht fun x _ _ => ⟨⟨rfl, rfl⟩, fun hr _ => ⟨hP.complete d b hr, destinationLaw_complete d b x⟩⟩

theorem Sound.completeMigration (r : Record) (d : SpareIdx) (h : Sound P s) : Sound P (completeMigration r d s) := by
  unfold Machine.completeMigration
  dsimp only
  refine Sound.startPersist hP (Sound.serveQueue hP ?_)
  split
  · next i _ =>
    have hburn : Sound P (burn (keyPos r.key) i s) := h.congr (by simp)
    exact hburn.completed hP r.key d _ (by simp; rfl)
  · exact h.completed hP r.key d _ (by simp; rfl)

theorem Sound.judgeCheck (st : MigStep) (outcome : LineOutcome) (h : Sound P s) : Sound P (judgeCheck st outcome s) := by
  unfold Machine.judgeCheck passCheck
  split
  · next r hr =>
    split
    · split
      · next m hm =>
        split
        · exact h.completeMigration hP r _
        · refine h.update rfl fun x hx hk => ?_
          obtain rfl := record_of_key h.table (lookup_mem hr) hx hk
          refine ⟨⟨rfl, rfl⟩, fun hx hd => ⟨hP.sparing _ _ _ (.inl rfl) hx, hd.1, ?_⟩⟩
          rw [← hd.2, hm]
          rfl
      · exact h
    · exact h.failAttempt hP r _
  · exact h

omit hP in
theorem destinationLaw_abort (r : Record) : DestinationLaw r.abort :=
  destinationLaw_of_none rfl rfl (by simp only [Record.abort, Record.settle]; split <;> simp)

theorem Sound.abort {t : State} (h : Sound P s) (k : RowKey) (ht : t.table = (updateRecord k Record.abort s).table) :
    Sound P t :=
  h.update ht fun r _ _ => ⟨⟨rfl, rfl⟩, fun hr _ => ⟨hP.abort hr, destinationLaw_abort r⟩⟩

theorem Sound.abortMigrating (r : Record) (h : Sound P s) : Sound P (abortMigrating r s) := by
  unfold Machine.abortMigrating
  dsimp only
  refine Sound.serveQueue hP (h.abort hP r.key ?_)
  split <;> simp [updateRecord]

omit hP in
/-- A REPAIR slot gives homes to records; `P` is asked of the records that it gives. -/
theorem Sound.installRepair (k : RowKey) (i : SpareIdx) (h : Sound P s)
    (hhome : ∀ r ∈ s.table, P r → P { r with homeSpare := some i }) (hload : ∀ n, P (.loaded i (.fresh n k .store))) :
    Sound P (installRepair k i s) := by
  have hmove {t : State} (ht : t.table = s.table) :
      Sound P (updateRecord k (fun r => { r with homeSpare := some i }) (allocate (keyPos k) i t)) :=
    h.update (k := k) (f := fun r => { r with homeSpare := some i }) (by simp [updateRecord, ht])
      fun r hr _ => ⟨⟨rfl, rfl⟩, fun hp hd => ⟨hhome r hr hp, hd⟩⟩
  unfold Machine.installRepair
  dsimp only
  split
  · exact h
  · split
    · exact h
    · split
      · split
        · exact h
        · split
          · exact hmove (by simp)
          · exact hmove rfl
      · next hk =>
        split
        · next hcreate =>
          exact (h.createRecord hk (fun n => ⟨rfl, rfl, hload n, destinationLaw_of_none rfl rfl RecordState.noConfusion⟩)
            hcreate).congr (by simp)
        · exact h

/-! ### Every step -/

theorem Move.sound {s t : State} (hm : Move s t) (h : Sound P s) : Sound P t := by
  cases hm with
  | aside htable _ _ _ => exact h.congr htable
  | retouch _ f hf => exact h.retouch hP rfl hf
  | event ev _ => exact h.receiveEvent hP ev
  | decay => exact h.decayAll hP
  | create hk hchange hcreate => exact h.createRetouched hP hk hchange hcreate
  | release hr hok => exact h.filter rfl
  | enqueue hr hmig urgent => exact h.enqueue hP (lookup_mem hr) (lookup_key hr) hmig urgent
  | abortQueued hr hq => exact (h.congr rfl : Sound P (s.setQueue _)).abort hP _ rfl
  | abortMigrating hr hmig => exact h.abortMigrating hP _
  | fail hr hmig hd => exact h.failAttempt hP _ _
  | judge hst hl outcome => exact (h.congr (by simp) : Sound P (endStep s)).judgeCheck hP _ _
  | badSpare b _ => exact h.congr (by simp)

end

theorem decayWeight_le (d w : Nat) : decayWeight d w ≤ w := by
  unfold decayWeight
  split <;> omega

theorem scoreLaw_decay (p : Params) {r : Record} (h : ScoreLaw r) : ScoreLaw (r.decay p) := by
  unfold Record.decay
  dsimp only
  split <;> exact ⟨(decayWeight_le _ _).trans h.1, h.2⟩

/-- The law of weight and poison list is kept by every change of a record (R90). -/
theorem scoreLaw_recordLaw : RecordLaw fun r => ScoreLaw r where
  fresh _ _ _ := ⟨Nat.zero_le _, Nat.zero_le _, List.nodup_nil⟩
  retouched h hr := h.scoreLaw hr
  score p ev _ h := scoreLaw_score p ev h
  decay p _ h := scoreLaw_decay p h
  sparing _ _ _ _ _ h := h
  complete _ _ _ h := ⟨Nat.zero_le _, h.2⟩
  abort h := h

/-- Settles O56: a step is a reset, a slot of the load or a chain of moves, and each of them keeps the laws. -/
theorem faultTableStaysLawful : Obligations.FaultTableStaysLawful := by
  intro s t htable hrecords hstep
  have hs : Sound (fun r => ScoreLaw r) s := ⟨htable, hrecords⟩
  suffices Sound (fun r => ScoreLaw r) t from ⟨this.table, this.records⟩
  rcases step_moved hstep with hm | ⟨rest, -, he⟩ | ⟨lost, held, rest, -, he⟩
  · exact hm.keeps (Move.sound scoreLaw_recordLaw) hs
  · obtain rfl := Host.Outcome.next.inj he
    have hrest : Sound (fun r => ScoreLaw r) (s.setPending rest) := hs.congr rfl
    split
    · split
      · next k i _ =>
        have hload (n : Fin 256) : ScoreLaw (.loaded i (.fresh n k .store)) := scoreLaw_recordLaw.fresh n k .store
        exact (hrest.installRepair k i (fun _ _ h => h) hload).congr rfl
      · exact hrest
    · exact hrest
  · obtain rfl := Host.Outcome.next.inj he
    exact ⟨⟨List.nodup_nil, List.nodup_nil⟩, fun r hr => by cases hr⟩

end Sys2Proof.Machine
end

section
/-! PROOFS. Records, spares, migration queue and engine in agreement (O58): what each of them reads of the records, as a
function of the row key. -/

namespace Sys2Proof.Machine

/-! ### What sparing reads of the records -/

/-- What `g` reads of the record of the key. -/
def field {α : Type} (g : Record → Option α) (s : State) (k : RowKey) : Option α := (lookup s k).bind g

/-- The section of the migration queue that a QUEUED record belongs to: whether it is urgent (R149). -/
def Record.queuedAs (r : Record) : Option Bool := if r.state = .queued then some r.urgent else none

/-- The section of the queue. -/
def MigQueue.part (q : MigQueue) (urgent : Bool) : List RowKey := if urgent then q.urgent else q.normal

section
variable {α : Type} {g : Record → Option α} {s t : State}

theorem field_some {k : RowKey} {a : α} : field g s k = some a ↔ ∃ r, lookup s k = some r ∧ g r = some a := by
  rw [field, Option.bind_eq_some_iff]

theorem field_none {k : RowKey} : field g s k = none ↔ ∀ r, lookup s k = some r → g r = none := by
  rw [field, Option.bind_eq_none_iff]

theorem field_of_lookup {k : RowKey} {r : Record} (hr : lookup s k = some r) : field g s k = g r := by
  rw [field, hr]
  rfl

theorem lookup_of_mem (h : TableLaw s) {r : Record} (hr : r ∈ s.table) : lookup s r.key = some r := by
  cases hl : lookup s r.key with
  | none => exact absurd rfl (lookup_eq_none.1 hl r hr)
  | some x => rw [record_of_key h hr (lookup_mem hl) (lookup_key hl)]

theorem field_congr (h : t.table = s.table) : field g t = field g s :=
  funext fun k => by rw [field, field, lookup_congr h]

theorem field_map {f : Record → Record} (ht : t.table = s.table.map f) (hk : ∀ r, (f r).key = r.key)
    (hg : ∀ r ∈ s.table, g (f r) = g r) : field g t = field g s := by
  funext k
  have hl : lookup t k = (lookup s k).map f := by rw [lookup, ht, find_map_key _ _ _ hk, ← lookup]
  rw [field, field, hl]
  cases hr : lookup s k with
  | none => rfl
  | some r => exact hg r (lookup_mem hr)

theorem field_update {k : RowKey} {f : Record → Record} {r : Record} (ht : t.table = (updateRecord k f s).table)
    (hf : ∀ x, x.key = k → (f x).key = k) (hr : lookup s k = some r) :
    field g t = Function.update (field g s) k (g (f r)) := by
  funext k'
  rw [field, lookup_congr ht, lookup_updateRecord s k k' f hf, Function.update_apply]
  split
  · next h => subst h; rw [hr]; rfl
  · rfl

theorem field_update_same {k : RowKey} {f : Record → Record} (ht : t.table = (updateRecord k f s).table)
    (hf : ∀ x, x.key = k → (f x).key = k) (hg : ∀ r, lookup s k = some r → g (f r) = g r) : field g t = field g s := by
  funext k'
  rw [field, lookup_congr ht, lookup_updateRecord s k k' f hf]
  split
  · next h =>
    subst h
    cases hr : lookup s k' with
    | none => rw [field, hr]; rfl
    | some r => rw [field, hr]; exact hg r hr
  · rfl

theorem lookup_filter (h : TableLaw s) {p : Record → Bool} (ht : t.table = s.table.filter p) (k : RowKey) :
    lookup t k = (lookup s k).filter p := by
  have hmem {x : Record} (hx : x ∈ t.table) : x ∈ s.table ∧ p x = true := List.mem_filter.1 (ht ▸ hx)
  cases hr : lookup s k with
  | none => exact lookup_eq_none.2 fun x hx => lookup_eq_none.1 hr x (hmem hx).1
  | some r =>
    have hone {x : Record} (hx : x ∈ s.table) (hk : x.key = k) : x = r :=
      record_of_key h (lookup_mem hr) hx (hk.trans (lookup_key hr).symm)
    rw [Option.filter_some]
    split
    · next hp =>
      rw [← lookup_key hr]
      refine lookup_of_mem (tableLaw_filter h ht) ?_
      rw [ht]
      exact List.mem_filter.2 ⟨lookup_mem hr, hp⟩
    · next hp =>
      refine lookup_eq_none.2 fun x hx hk => hp ?_
      obtain ⟨hxs, hpx⟩ := hmem hx
      exact hone hxs hk ▸ hpx

/-- Records that `g` reads nothing of leave the table. -/
theorem field_filter (h : TableLaw s) {p : Record → Bool} (ht : t.table = s.table.filter p)
    (hp : ∀ r ∈ s.table, p r = false → g r = none) : field g t = field g s := by
  funext k
  rw [field, field, lookup_filter h ht]
  cases hr : lookup s k with
  | none => rfl
  | some r =>
    rw [Option.filter_some]
    split
    · rfl
    · next hpr => exact (hp r (lookup_mem hr) (by simpa using hpr)).symm

/-- The record of a key leaves the table. -/
theorem field_erase (h : TableLaw s) {k : RowKey} (ht : t.table = s.table.filter fun r => r.key != k) :
    field g t = Function.update (field g s) k none := by
  funext k'
  rw [field, lookup_filter h ht, Function.update_apply, field]
  cases hr : lookup s k' with
  | none => simp
  | some r => by_cases hk : k' = k <;> simp [Option.filter_some, lookup_key hr, hk]

/-- A record of a new key joins the table. -/
theorem field_append {r : Record} (hk : lookup s r.key = none) (ht : t.table = s.table ++ [r]) :
    field g t = Function.update (field g s) r.key (g r) := by
  funext k
  rw [field, lookup, ht, List.find?_append, ← lookup, Function.update_apply]
  split
  · next h => rw [h, hk]; simp
  · next h =>
    rw [field]
    cases hr : lookup s k with
    | none => simp [Ne.symm h]
    | some x => rfl

/-- Records that `g` reads nothing of come and go unnoticed. -/
theorem field_append_none {r : Record} (hk : lookup s r.key = none) (ht : t.table = s.table ++ [r]) (hg : g r = none) :
    field g t = field g s := by
  have hnone : field g s r.key = none := by rw [field, hk]; rfl
  rw [field_append hk ht, hg, ← hnone, Function.update_eq_self]

end

/-! ### Homes, destinations and the spare pool (R145) -/

/-- The spares that the records name are the ASSIGNED ones, each named once. -/
structure SparesAgree (home dest : RowKey → Option SpareIdx) (spare : BankPos → SpareIdx → SpareState) : Prop where
  apart : ∀ k i, dest k = some i → home k ≠ some i
  assigned : ∀ p i, spare p i = .assigned ↔ ∃ k, keyPos k = p ∧ (home k = some i ∨ dest k = some i)
  once : ∀ k k' i, keyPos k = keyPos k' → home k = some i ∨ dest k = some i → home k' = some i ∨ dest k' = some i → k = k'

/-- The pool with one spare in another state. -/
def withSpare (spare : BankPos → SpareIdx → SpareState) (q : BankPos) (j : SpareIdx) (st : SpareState) :
    BankPos → SpareIdx → SpareState :=
  fun p i => if p = q ∧ i = j then st else spare p i

section
variable {home dest : RowKey → Option SpareIdx} {spare : BankPos → SpareIdx → SpareState}

/-- One key's record names other spares: those it names now are ASSIGNED and were its own or not ASSIGNED, and of the
others those are ASSIGNED that were and that it did not name. -/
theorem SparesAgree.change (h : SparesAgree home dest spare) {k : RowKey} {a b : Option SpareIdx}
    {spare' : BankPos → SpareIdx → SpareState} (hab : ∀ i, b = some i → a ≠ some i)
    (hnew : ∀ i, a = some i ∨ b = some i → spare (keyPos k) i = .assigned → home k = some i ∨ dest k = some i)
    (hspare : ∀ p i, spare' p i = .assigned ↔ p = keyPos k ∧ (a = some i ∨ b = some i) ∨
      spare p i = .assigned ∧ ¬ (p = keyPos k ∧ (home k = some i ∨ dest k = some i))) :
    SparesAgree (Function.update home k a) (Function.update dest k b) spare' := by
  have hsame {x : RowKey} (hx : x ≠ k) {i : SpareIdx} :
      Function.update home k a x = some i ∨ Function.update dest k b x = some i ↔ home x = some i ∨ dest x = some i := by
    rw [Function.update_of_ne hx, Function.update_of_ne hx]
  have hself {i : SpareIdx} :
      Function.update home k a k = some i ∨ Function.update dest k b k = some i ↔ a = some i ∨ b = some i := by
    rw [Function.update_self, Function.update_self]
  have hother {x : RowKey} (hx : x ≠ k) {i : SpareIdx} (hp : keyPos x = keyPos k) (hi : home x = some i ∨ dest x = some i)
      (hab : a = some i ∨ b = some i) : False :=
    hx (h.once x k i hp hi (hnew i hab (hp ▸ (h.assigned _ i).2 ⟨x, rfl, hi⟩)))
  refine ⟨fun x i => ?_, fun p i => ?_, fun x y i hp hx hy => ?_⟩
  · by_cases hx : x = k
    · subst hx
      rw [Function.update_self, Function.update_self]
      exact hab i
    · rw [Function.update_of_ne hx, Function.update_of_ne hx]
      exact h.apart x i
  · rw [hspare]
    constructor
    · rintro (⟨rfl, hi⟩ | ⟨hi, hno⟩)
      · exact ⟨k, rfl, hself.2 hi⟩
      · obtain ⟨x, rfl, hx⟩ := (h.assigned p i).1 hi
        have hne : x ≠ k := by rintro rfl; exact hno ⟨rfl, hx⟩
        exact ⟨x, rfl, (hsame hne).2 hx⟩
    · rintro ⟨x, rfl, hx⟩
      by_cases hne : x = k
      · subst hne
        exact .inl ⟨rfl, hself.1 hx⟩
      · have hx := (hsame hne).1 hx
        exact .inr ⟨(h.assigned _ i).2 ⟨x, rfl, hx⟩, fun ⟨hp, hi⟩ => hne (h.once x k i hp hx hi)⟩
  · by_cases hxk : x = k <;> by_cases hyk : y = k
    · rw [hxk, hyk]
    · subst hxk
      exact (hother hyk hp.symm ((hsame hyk).1 hy) (hself.1 hx)).elim
    · subst hyk
      exact (hother hxk hp ((hsame hxk).1 hx) (hself.1 hy)).elim
    · exact h.once x y i hp ((hsame hxk).1 hx) ((hsame hyk).1 hy)

/-- A FREE spare becomes the destination of a record. -/
theorem SparesAgree.takeDest (h : SparesAgree home dest spare) {k : RowKey} {d : SpareIdx} (hd : dest k = none)
    (hfree : spare (keyPos k) d = .free) :
    SparesAgree home (Function.update dest k (some d)) (withSpare spare (keyPos k) d .assigned) := by
  have hnot : ¬ (home k = some d ∨ dest k = some d) := fun hi => by
    have := (h.assigned _ d).2 ⟨k, rfl, hi⟩
    rw [hfree] at this
    cases this
  rw [← Function.update_eq_self k home]
  refine h.change (fun i hi => ?_) (fun i hi hs => ?_) fun p i => ?_
  · grind
  · grind
  · have := h.assigned p i
    grind [withSpare]

/-- The destination of a record leaves the ASSIGNED spares. -/
theorem SparesAgree.dropDest (h : SparesAgree home dest spare) {k : RowKey} {d : SpareIdx} {st : SpareState}
    (hd : dest k = some d) (hst : st ≠ .assigned) :
    SparesAgree home (Function.update dest k none) (withSpare spare (keyPos k) d st) := by
  have hapart := h.apart k d hd
  rw [← Function.update_eq_self k home]
  refine h.change (fun i hi => ?_) (fun i hi hs => ?_) fun p i => ?_
  · grind
  · grind
  · have := h.assigned p i
    grind [withSpare]

/-- The home of a record leaves the ASSIGNED spares. -/
theorem SparesAgree.dropHome (h : SparesAgree home dest spare) {k : RowKey} {i : SpareIdx} {st : SpareState}
    (hi : home k = some i) (hst : st ≠ .assigned) :
    SparesAgree (Function.update home k none) dest (withSpare spare (keyPos k) i st) := by
  have hapart : dest k ≠ some i := fun hd => h.apart k i hd hi
  rw [← Function.update_eq_self k dest]
  refine h.change (fun i hi => ?_) (fun i hi hs => ?_) fun p j => ?_
  · grind
  · grind
  · have := h.assigned p j
    grind [withSpare]

/-- A FREE spare becomes the home of a record without one. -/
theorem SparesAgree.takeHome (h : SparesAgree home dest spare) {k : RowKey} {i : SpareIdx} (hi : home k = none)
    (hfree : spare (keyPos k) i = .free) :
    SparesAgree (Function.update home k (some i)) dest (withSpare spare (keyPos k) i .assigned) := by
  have hnot : ¬ (home k = some i ∨ dest k = some i) := fun hi => by
    have := (h.assigned _ i).2 ⟨k, rfl, hi⟩
    rw [hfree] at this
    cases this
  rw [← Function.update_eq_self k dest]
  refine h.change (fun i hi => ?_) (fun i hi hs => ?_) fun p j => ?_
  · grind
  · grind
  · have := h.assigned p j
    grind [withSpare]

/-- The destination of a record becomes its home. -/
theorem SparesAgree.settle (h : SparesAgree home dest spare) {k : RowKey} {d : SpareIdx} (hi : home k = none)
    (hd : dest k = some d) : SparesAgree (Function.update home k (some d)) (Function.update dest k none) spare := by
  refine h.change (fun i hi => ?_) (fun i hi hs => ?_) fun p i => ?_
  · grind
  · grind
  · have := h.assigned p i
    grind

end

/-! ### The engine and its step (R150, R160) -/

/-- At most one record has a destination, and the attempt's step is its own. -/
structure EngineAgrees (dest : RowKey → Option SpareIdx) (step : Option MigStep) : Prop where
  one : ∀ k k' d d', dest k = some d → dest k' = some d' → k = k'
  step : ∀ st : MigStep, step = some st → st.leftover = false → dest (lineKey st.line) = some st.dest

section
variable {dest : RowKey → Option SpareIdx} {step step' : Option MigStep}

theorem EngineAgrees.begin (h : EngineAgrees dest step) (k : RowKey) (d : SpareIdx) (hidle : ∀ x, dest x = none) :
    EngineAgrees (Function.update dest k (some d)) step := by
  have hone {x : RowKey} {i : SpareIdx} (hx : Function.update dest k (some d) x = some i) : x = k := by
    by_contra hne
    rw [Function.update_of_ne hne, hidle x] at hx
    cases hx
  refine ⟨fun x y i j hx hy => (hone hx).trans (hone hy).symm, fun st hst hl => ?_⟩
  have := h.step st hst hl
  rw [hidle] at this
  cases this

/-- The migration ends: no record has a destination, and no step of an attempt is left. -/
theorem EngineAgrees.finish (h : EngineAgrees dest step) {k : RowKey} {d : SpareIdx} (hd : dest k = some d)
    (hstep : ∀ st, step' = some st → st.leftover = true) :
    EngineAgrees (Function.update dest k none) step' ∧ ∀ x, Function.update dest k none x = none := by
  have hnone (x : RowKey) : Function.update dest k none x = none := by
    rw [Function.update_apply]
    split
    · rfl
    · next hx => exact Option.eq_none_iff_forall_ne_some.2 fun i hi => hx (h.one x k i d hi hd)
  refine ⟨⟨fun x y i j hx _ => ?_, fun st hst hl => ?_⟩, hnone⟩
  · rw [hnone] at hx; cases hx
  · rw [hstep st hst] at hl; cases hl

end

/-! ### The migration queue (R149) -/

/-- The queue holds each QUEUED record once, in the section that it belongs to. -/
structure QueueAgrees (queued : RowKey → Option Bool) (q : MigQueue) : Prop where
  nodup : (q.urgent ++ q.normal).Nodup
  mem : ∀ k u, k ∈ q.part u ↔ queued k = some u

section
variable {queued : RowKey → Option Bool} {q q' : MigQueue} {k : RowKey}

theorem MigQueue.mem_part_remove {u : Bool} {x : RowKey} : x ∈ (q.remove k).part u ↔ x ∈ q.part u ∧ x ≠ k := by
  cases u <;> simp [MigQueue.part, MigQueue.remove]

theorem QueueAgrees.remove (h : QueueAgrees queued q) (k : RowKey) :
    QueueAgrees (Function.update queued k none) (q.remove k) := by
  refine ⟨?_, fun x u => ?_⟩
  · rw [MigQueue.remove, ← List.filter_append]
    exact h.nodup.filter _
  · rw [MigQueue.mem_part_remove, h.mem, Function.update_apply]
    split <;> simp [*]

theorem MigQueue.mem_join {x : RowKey} {u v : Bool} : x ∈ (q.join k u).part v ↔ x ∈ q.part v ∨ x = k ∧ u = v := by
  cases u <;> cases v <;> simp [MigQueue.part, MigQueue.join]

theorem QueueAgrees.join (h : QueueAgrees queued q) (hk : queued k = none) (u : Bool) :
    QueueAgrees (Function.update queued k (some u)) (q.join k u) := by
  have hu : k ∉ q.urgent := fun hm => by simpa [hk] using (h.mem k true).1 hm
  have hn : k ∉ q.normal := fun hm => by simpa [hk] using (h.mem k false).1 hm
  refine ⟨?_, fun x v => ?_⟩
  · unfold MigQueue.join
    have hc : (k :: (q.urgent ++ q.normal)).Nodup := List.nodup_cons.2 ⟨by simp [hu, hn], h.nodup⟩
    split
    · exact (List.Perm.nodup_iff (by simp)).2 hc
    · exact (List.Perm.nodup_iff (by rw [← List.append_assoc]; exact List.perm_append_singleton _ _)).2 hc
  · rw [MigQueue.mem_join, h.mem, Function.update_apply]
    split
    · next hx => subst hx; simp [hk]
    · next hx => simp [hx]

theorem QueueAgrees.requeue (h : QueueAgrees queued q) (k : RowKey) (u : Bool) :
    QueueAgrees (Function.update queued k (some u)) ((q.remove k).join k u) := by
  have hjoin := (h.remove k).join (Function.update_self ..) u
  rwa [Function.update_idem] at hjoin

/-- The head leaves the queue as any record does, from the section that it stands in. -/
theorem MigQueue.takeHead_remove (hq : q.takeHead = some (k, q')) (h : (q.urgent ++ q.normal).Nodup) :
    q' = q.remove k ∧ ∃ u, k ∈ q.part u := by
  have hkeep {l : List RowKey} (hl : k ∉ l) : l.filter (fun x => x != k) = l :=
    List.filter_eq_self.2 fun x hx => bne_iff_ne.2 fun he => hl (he ▸ hx)
  unfold MigQueue.takeHead at hq
  split at hq
  · next hu =>
    cases hq
    rw [hu, List.cons_append, List.nodup_cons, List.mem_append, not_or] at h
    refine ⟨?_, true, by simp [MigQueue.part, hu]⟩
    rw [MigQueue.remove, hu, hkeep h.1.2, List.filter_cons_of_neg (by simp), hkeep h.1.1]
  · next hu hn =>
    cases hq
    rw [hu, hn, List.nil_append, List.nodup_cons] at h
    refine ⟨?_, false, by simp [MigQueue.part, hn]⟩
    rw [MigQueue.remove, hu, hn, List.filter_cons_of_neg (by simp), hkeep h.1, List.filter_nil]
  · cases hq

theorem QueueAgrees.takeHead (h : QueueAgrees queued q) (hq : q.takeHead = some (k, q')) :
    (∃ u, queued k = some u) ∧ QueueAgrees (Function.update queued k none) q' := by
  obtain ⟨rfl, u, hu⟩ := MigQueue.takeHead_remove hq h.nodup
  exact ⟨⟨u, (h.mem k u).1 hu⟩, h.remove k⟩

end

end Sys2Proof.Machine
end

section
/-! PROOFS. The agreement of records, spares, migration queue and engine, kept by every step (O58). -/

namespace Sys2Proof.Machine

/-! ### The laws together -/

theorem homeLaw_abort (r : Record) : HomeLaw r.abort := by
  unfold Record.abort Record.settle
  cases h : r.homeSpare <;> simp [HomeLaw]

/-- The home spares are ruled by the states, whatever changes a record (R54). -/
theorem homeLaw_recordLaw : RecordLaw fun r => HomeLaw r where
  fresh _ _ _ := ⟨fun _ => rfl, fun h => RecordState.noConfusion h⟩
  retouched h hr := by
    rw [HomeLaw, h.state, h.homeSpare]
    exact hr
  score p ev r h := by
    rw [HomeLaw, r.score_state, (r.score_sparing p ev).1]
    exact h
  decay p r h := by
    unfold Record.decay
    dsimp only
    split
    · split <;> simp_all [HomeLaw]
    · exact h
  sparing _ _ _ _ hst h := by
    rcases hst with rfl | ⟨hw, hs⟩
    · exact h
    · exact ⟨fun e => absurd e hw, fun e => absurd e hs⟩
  complete d b r _ := ⟨fun h => RecordState.noConfusion h, fun _ => rfl⟩
  abort _ := homeLaw_abort _

/-- The laws of records, spares, queue and engine, by row keys. -/
structure Repair (s : State) : Prop where
  sound : Sound (fun r => HomeLaw r) s
  spares : SparesAgree (field Record.homeSpare s) (field Record.destSpare s) (spareState s.spares)
  engine : EngineAgrees (field Record.destSpare s) s.engine.step
  queue : QueueAgrees (field Record.queuedAs s) s.queue

/-- A pool with the same ASSIGNED spares. -/
theorem SparesAgree.congr {home dest : RowKey → Option SpareIdx} {spare spare' : BankPos → SpareIdx → SpareState}
    (h : SparesAgree home dest spare) (hs : ∀ p i, spare' p i = .assigned ↔ spare p i = .assigned) :
    SparesAgree home dest spare' :=
  ⟨h.apart, fun p i => (hs p i).trans (h.assigned p i), h.once⟩

section
variable {s t : State} {k : RowKey} {r : Record}

theorem Repair.destLaw (h : Repair s) (hr : lookup s k = some r) : DestinationLaw r :=
  (h.sound.records r (lookup_mem hr)).2

theorem Repair.homeLaw (h : Repair s) (hr : lookup s k = some r) : HomeLaw r := (h.sound.records r (lookup_mem hr)).1

theorem Repair.dest_none (h : Repair s) (hr : lookup s k = some r) (hm : r.state ≠ .migrating) : r.destSpare = none :=
  (destination_none (h.destLaw hr) hm).1

/-- While no record is MIGRATING, no key has a destination. -/
theorem Repair.idle (h : Repair s) (hm : ∀ r ∈ s.table, r.state ≠ .migrating) (x : RowKey) :
    field Record.destSpare s x = none :=
  field_none.2 fun _ hr => h.dest_none hr (hm _ (lookup_mem hr))

theorem EngineAgrees.follow (h : Repair s) (hstep : StepFollows s t) :
    EngineAgrees (field Record.destSpare s) t.engine.step := by
  refine ⟨h.engine.one, fun st hst hl => ?_⟩
  rcases hstep st hst hl with ⟨st₀, hst₀, hl₀, hline, hdest⟩ | ⟨r, hr, hk, hd⟩
  · rw [← hline, ← hdest]
    exact h.engine.step st₀ hst₀ hl₀
  · exact field_some.2 ⟨r, hk ▸ lookup_of_mem h.sound.table (List.mem_of_find?_eq_some hr), hd⟩

/-- What sparing reads of the records, the ASSIGNED spares and the queue as they were. -/
theorem Repair.of_fields (h : Repair s) (hsound : Sound (fun r => HomeLaw r) t)
    (hhome : field Record.homeSpare t = field Record.homeSpare s)
    (hdest : field Record.destSpare t = field Record.destSpare s)
    (hqueued : field Record.queuedAs t = field Record.queuedAs s)
    (hspares : ∀ p i, spareState t.spares p i = .assigned ↔ spareState s.spares p i = .assigned)
    (hqueue : t.queue = s.queue) (hstep : StepFollows s t) : Repair t where
  sound := hsound
  spares := by rw [hhome, hdest]; exact h.spares.congr hspares
  engine := by rw [hdest]; exact .follow h hstep
  queue := by rw [hqueued, hqueue]; exact h.queue

theorem Repair.aside (h : Repair s) (ht : t.table = s.table)
    (hspares : ∀ p i, spareState t.spares p i = .assigned ↔ spareState s.spares p i = .assigned)
    (hqueue : t.queue = s.queue) (hstep : StepFollows s t) : Repair t :=
  h.of_fields (h.sound.congr ht) (field_congr ht) (field_congr ht) (field_congr ht) hspares hqueue hstep

theorem Repair.same (h : Repair s) (he : RepairSame s t) : Repair t := by
  obtain ⟨ht, hs, hq, hst⟩ := he
  exact h.aside ht (fun _ _ => by rw [hs]) hq (.of_eq hst)

/-- Every record keeps its key, its spares and its place in the queue. -/
theorem Repair.map {f : Record → Record} (h : Repair s) (hsound : Sound (fun r => HomeLaw r) t)
    (ht : t.table = s.table.map f)
    (hf : ∀ r, (f r).key = r.key ∧ (f r).homeSpare = r.homeSpare ∧ (f r).destSpare = r.destSpare ∧ (f r).queuedAs = r.queuedAs)
    (hspares : t.spares = s.spares) (hqueue : t.queue = s.queue) (hstep : t.engine.step = s.engine.step) : Repair t :=
  have hkey (r : Record) := (hf r).1
  h.of_fields hsound (field_map ht hkey fun r _ => (hf r).2.1) (field_map ht hkey fun r _ => (hf r).2.2.1)
    (field_map ht hkey fun r _ => (hf r).2.2.2) (fun _ _ => by rw [hspares]) hqueue (.of_eq hstep)

/-- One record keeps its key, its spares and its place in the queue. -/
theorem Repair.update {f : Record → Record} (h : Repair s) (hsound : Sound (fun r => HomeLaw r) (updateRecord k f s))
    (hk : ∀ x, x.key = k → (f x).key = k) (hr : lookup s k = some r)
    (hf : (f r).homeSpare = r.homeSpare ∧ (f r).destSpare = r.destSpare ∧ (f r).queuedAs = r.queuedAs) :
    Repair (updateRecord k f s) := by
  have hone {α : Type} {g : Record → Option α} (hg : g (f r) = g r) : field g (updateRecord k f s) = field g s :=
    field_update_same rfl hk fun x hx => by cases hr.symm.trans hx; exact hg
  exact h.of_fields hsound (hone hf.1) (hone hf.2.1) (hone hf.2.2) (fun _ _ => by simp) (by simp) (.of_eq (by simp))

theorem Retouched.queuedAs {r r' : Record} (h : Retouched r r') : r'.queuedAs = r.queuedAs := by
  rw [Record.queuedAs, h.state, h.urgent, Record.queuedAs]

theorem Repair.retouch (h : Repair s) {f : Record → Record} (hf : ∀ r, Retouched r (f r)) :
    Repair (s.setTable (s.table.map f)) :=
  h.map (h.sound.retouch homeLaw_recordLaw rfl hf) rfl
    (fun r => ⟨(hf r).key, (hf r).homeSpare, (hf r).destSpare, (hf r).queuedAs⟩) rfl rfl rfl

theorem Repair.startPersist (h : Repair s) : Repair (startPersist s) := by
  have hfull : Repair (storeFull s) :=
    (h.retouch (f := fun r => { r with persistWanted := false }) fun r => .flags r _ _ _ _).same
      (by simp [RepairSame, storeFull])
  unfold Machine.startPersist beginProgram
  split
  · split
    · split
      · exact h.same (by simp [RepairSame])
      · exact hfull
    · exact h
  · exact h

/-! ### The queue served (R95, R149 to R151) -/

theorem Record.queuedAs_some {u : Bool} : r.queuedAs = some u ↔ r.state = .queued ∧ r.urgent = u := by
  simp [Record.queuedAs]

theorem Record.queuedAs_none (h : r.state ≠ .queued) : r.queuedAs = none := by
  simp [Record.queuedAs, h]

/-- A record leaves the head of the queue and is condemned on its home. -/
theorem Repair.condemnHead (h : Repair s) {q : MigQueue} (hr : lookup s k = some r) (hm : r.state ≠ .migrating)
    (hq : QueueAgrees (Function.update (field Record.queuedAs s) k none) q) : Repair (condemn k (s.setQueue q)) := by
  have ht : (condemn k (s.setQueue q)).table = (updateRecord k (Record.settle .condemned) s).table := by
    simp [condemn, updateRecord]
  refine ⟨(h.sound.congr rfl : Sound _ (s.setQueue q)).condemn homeLaw_recordLaw k, ?_, ?_, ?_⟩
  · rw [field_update_same ht (fun _ h => h) fun _ _ => rfl, field_update_same ht (fun _ h => h) fun x hx => ?_]
    · simpa [condemn] using h.spares
    · cases hr.symm.trans hx
      exact (h.dest_none hr hm).symm
  · rw [field_update_same ht (fun _ h => h) fun x hx => ?_]
    · simpa [condemn] using h.engine
    · cases hr.symm.trans hx
      exact (h.dest_none hr hm).symm
  · rw [field_update ht (fun _ h => h) hr, Record.queuedAs_none RecordState.noConfusion]
    simpa [condemn] using hq

/-- A record leaves the head of the queue for its first attempt. -/
theorem Repair.startHead (h : Repair s) {q : MigQueue} {d : SpareIdx} (n : Nat) (hr : lookup s k = some r)
    (hidle : ∀ x ∈ s.table, x.state ≠ .migrating) (hfree : spareState s.spares (keyPos k) d = .free)
    (hq : QueueAgrees (Function.update (field Record.queuedAs s) k none) q) :
    Repair (startAttempt k d n (s.setQueue q)) := by
  have ht : (startAttempt k d n (s.setQueue q)).table = (updateRecord k (Record.startAttempt d n) s).table := by
    simp [startAttempt, updateRecord]
  have hstep : (startAttempt k d n (s.setQueue q)).engine.step = s.engine.step := by simp [startAttempt]
  have hdest := field_update (g := Record.destSpare) ht (fun _ h => h) hr
  have hnone := h.idle hidle
  refine ⟨(h.sound.congr rfl : Sound _ (s.setQueue q)).startAttempt homeLaw_recordLaw k d n, ?_, ?_, ?_⟩
  · rw [field_update_same ht (fun _ h => h) fun _ _ => rfl, hdest]
    exact (h.spares.takeDest (hnone k) hfree).congr fun p i => by simp [withSpare]
  · rw [hdest, hstep]
    exact h.engine.begin k d hnone
  · rw [field_update ht (fun _ h => h) hr, Record.queuedAs_none RecordState.noConfusion]
    simpa using hq

theorem Repair.takeHeads (n : Nat) (h : Repair s) : Repair (takeHeads n s) := by
  induction n generalizing s with
  | zero => exact h
  | succ n ih =>
    unfold Machine.takeHeads
    split
    · exact h
    · next hidle =>
      have hidle : ∀ x ∈ s.table, x.state ≠ .migrating := by simpa [migrating, List.find?_isSome] using hidle
      split
      · exact h
      · next k q hhead =>
        obtain ⟨⟨u, hu⟩, hq⟩ := h.queue.takeHead hhead
        obtain ⟨r, hr, -⟩ := field_some.1 hu
        dsimp only
        split
        · next d hd => exact h.startHead 1 hr hidle (lowestFree_some.1 hd).1 hq
        · exact ih (h.condemnHead hr (hidle r (lookup_mem hr)) hq)

theorem Repair.serveQueue (h : Repair s) : Repair (serveQueue s) := h.takeHeads _

/-- The record's change as it joins the queue (R95). -/
def Record.enqueued (u : Bool) (r : Record) : Record := { r with state := .queued, urgent := u }

theorem Repair.queued (h : Repair s) (hr : lookup s k = some r) (hm : r.state ≠ .migrating) {u : Bool}
    (ht : t.table = (updateRecord k (Record.enqueued u) s).table) (hspares : t.spares = s.spares)
    (hqueue : t.queue = (s.queue.remove k).join k u) (hstep : t.engine.step = s.engine.step) : Repair t where
  sound := h.sound.queued homeLaw_recordLaw (lookup_mem hr) (lookup_key hr) hm u ht
  spares := by
    rw [field_update_same ht (fun _ h => h) fun _ _ => rfl, field_update_same ht (fun _ h => h) fun _ _ => rfl, hspares]
    exact h.spares
  engine := by
    rw [field_update_same ht (fun _ h => h) fun _ _ => rfl, hstep]
    exact h.engine
  queue := by
    rw [field_update ht (fun _ h => h) hr, hqueue, Record.queuedAs_some.2 ⟨rfl, rfl⟩]
    exact h.queue.requeue k u

theorem Repair.enqueue (h : Repair s) (hr : lookup s k = some r) (hm : r.state ≠ .migrating) (u : Bool) :
    Repair (enqueue k u s) :=
  Repair.serveQueue (h.queued hr hm (u := u) rfl (by simp) (by simp) (by simp))

/-! ### Attempts that end (R159, R162, R164) -/

theorem orphanStep_leftover {st : MigStep} (h : (orphanStep s).engine.step = some st) : st.leftover = true := by
  unfold orphanStep at h
  split at h
  · next hnone => rw [hnone] at h; cases h
  · split at h
    · cases h
    · cases h; rfl

/-- The record of the key has no destination any more, and its old one is in another state. -/
structure DestDropped (s t : State) (k : RowKey) : Prop where
  spares : SparesAgree (field Record.homeSpare s) (Function.update (field Record.destSpare s) k none) (spareState t.spares)
  engine : EngineAgrees (Function.update (field Record.destSpare s) k none) t.engine.step
  idle : ∀ x, Function.update (field Record.destSpare s) k none x = none

theorem Repair.dropDest (h : Repair s) (hr : lookup s k = some r) {d : SpareIdx} (hd : r.destSpare = some d)
    {st : SpareState} (hst : st ≠ .assigned)
    (hspares : ∀ p i, spareState t.spares p i = withSpare (spareState s.spares) (keyPos k) d st p i)
    (hstep : ∀ st, t.engine.step = some st → st.leftover = true) : DestDropped s t k := by
  have hdest : field Record.destSpare s k = some d := by rw [field_of_lookup hr, hd]
  obtain ⟨hengine, hidle⟩ := h.engine.finish hdest hstep
  exact ⟨(h.spares.dropDest hdest hst).congr fun p i => by rw [hspares], hengine, hidle⟩

/-- A QUEUED record stays so when another leaves MIGRATING. -/
theorem Repair.queue_same (h : Repair s) {f : Record → Record} (hr : lookup s k = some r) (hm : r.state = .migrating)
    (ht : t.table = (updateRecord k f s).table) (hk : ∀ x, x.key = k → (f x).key = k) (hf : (f r).state ≠ .queued)
    (hq : t.queue = s.queue) : QueueAgrees (field Record.queuedAs t) t.queue := by
  rw [field_update_same ht hk fun x hx => ?_, hq]
  · exact h.queue
  · cases hr.symm.trans hx
    rw [Record.queuedAs_none hf, Record.queuedAs_none (by simp [hm])]

/-- The record of a migration that ended settles in a state of its own, on its home. -/
theorem Repair.ended {u : State} (h : Repair s) (hr : lookup s k = some r) (hm : r.state = .migrating)
    (hdrop : DestDropped s t k) {f : Record → Record} (hk : ∀ x, x.key = k → (f x).key = k)
    (hf : (f r).homeSpare = r.homeSpare ∧ (f r).destSpare = none ∧ (f r).state ≠ .queued)
    (hsound : Sound (fun r => HomeLaw r) u) (hu : u.table = (updateRecord k f s).table) (hspares : u.spares = t.spares)
    (hqueue : u.queue = s.queue) (hstep : u.engine.step = t.engine.step) : Repair u := by
  have hdest : field Record.destSpare u = Function.update (field Record.destSpare s) k none := by
    rw [field_update hu hk hr, hf.2.1]
  refine ⟨hsound, ?_, ?_, h.queue_same hr hm hu hk hf.2.2 hqueue⟩
  · rw [hdest, hspares, field_update_same hu hk fun x hx => ?_]
    · exact hdrop.spares
    · cases hr.symm.trans hx
      exact hf.1
  · rw [hdest, hstep]
    exact hdrop.engine

theorem failedBase_dropped {d : SpareIdx} (h : Repair s) (hr : lookup s r.key = some r) (hd : r.destSpare = some d) :
    DestDropped s (failedBase r d s) r.key := by
  obtain ⟨hspares, -⟩ := failedBase_spec r d s
  exact h.dropDest hr hd (st := .burned) (by decide) hspares fun _ => orphanStep_leftover

theorem Repair.failAttempt {d : SpareIdx} (h : Repair s) (hr : lookup s r.key = some r) (hm : r.state = .migrating)
    (hd : r.destSpare = some d) : Repair (failAttempt r d s) := by
  have hdrop := failedBase_dropped h hr hd
  obtain ⟨-, -, htable, hqueue, -⟩ := failedBase_spec r d s
  have hbase : Sound (fun r => HomeLaw r) (failedBase r d s) := h.sound.congr htable
  rw [failAttempt_eq]
  refine Repair.startPersist ?_
  split
  · next d' hd' =>
    have hfree : spareState (failedBase r d s).spares (keyPos r.key) d' = .free := by
      split at hd'
      · exact (lowestFree_some.1 hd').1
      · cases hd'
    generalize (r.migration.map MigSub.attempt).getD 3 + 1 = n
    have ht : (startAttempt r.key d' n (failedBase r d s)).table = (updateRecord r.key (Record.startAttempt d' n) s).table := by
      simp [startAttempt, updateRecord, htable]
    have hdest : field Record.destSpare (startAttempt r.key d' n (failedBase r d s)) =
        Function.update (Function.update (field Record.destSpare s) r.key none) r.key (some d') := by
      rw [field_update ht (fun _ h => h) hr, Function.update_idem]
      rfl
    refine ⟨hbase.startAttempt homeLaw_recordLaw _ _ _, ?_, ?_, ?_⟩
    · rw [field_update_same ht (fun _ h => h) fun _ _ => rfl, hdest]
      exact (hdrop.spares.takeDest (Function.update_self ..) hfree).congr fun p i => by simp [withSpare]
    · rw [hdest]
      simpa [startAttempt] using hdrop.engine.begin r.key d' hdrop.idle
    · exact h.queue_same hr hm ht (fun _ h => h) RecordState.noConfusion (by simp [hqueue])
  · refine Repair.serveQueue (h.ended hr hm hdrop (f := Record.settle .condemned) (fun _ h => h)
      ⟨rfl, rfl, RecordState.noConfusion⟩ (hbase.condemn homeLaw_recordLaw _) ?_ ?_ ?_ ?_) <;>
      simp [condemn, updateRecord, htable, hqueue]

theorem Repair.abortMigrating (h : Repair s) (hr : lookup s r.key = some r) (hm : r.state = .migrating) :
    Repair (abortMigrating r s) := by
  obtain ⟨d, -, hd, -⟩ := destination_some (h.destLaw hr) hm
  have hdrop : DestDropped s (orphanStep ((setSpare (keyPos r.key) d .free s).setEngine
      { (setSpare (keyPos r.key) d .free s).engine with marked := [] })) r.key :=
    h.dropDest hr hd (st := .free) (by decide) (fun p i => by simp [withSpare, spareState_setSpare])
      fun _ => orphanStep_leftover
  unfold Machine.abortMigrating
  rw [hd]
  dsimp only
  refine Repair.serveQueue (h.ended hr hm hdrop (f := Record.abort) (fun _ h => h) ⟨rfl, rfl, ?_⟩
    (h.sound.abort homeLaw_recordLaw r.key ?_) ?_ ?_ ?_ ?_)
  · simp only [Record.abort, Record.settle]
    split <;> simp
  all_goals simp [updateRecord]

/-- The migration completes: the old home is BURNED, and the destination is the home (R162). -/
theorem Repair.completeMigration {d : SpareIdx} (h : Repair s) (hr : lookup s r.key = some r) (hm : r.state = .migrating)
    (hd : r.destSpare = some d) (hstep : s.engine.step = none) : Repair (completeMigration r d s) := by
  have hdest : field Record.destSpare s r.key = some d := by rw [field_of_lookup hr, hd]
  have hhome : field Record.homeSpare s r.key = r.homeSpare := field_of_lookup hr
  have hengine := (h.engine.finish (step' := none) hdest fun _ h => by cases h).1
  have hcomplete {t : State} {b : Bool} (hsound : Sound (fun r => HomeLaw r) t)
      (ht : t.table = (updateRecord r.key (Record.complete d b) s).table)
      (hspares : SparesAgree (Function.update (field Record.homeSpare s) r.key none) (field Record.destSpare s)
        (spareState t.spares)) (hqueue : t.queue = s.queue) (hnone : t.engine.step = none) : Repair t := by
    have hdrop : field Record.destSpare t = Function.update (field Record.destSpare s) r.key none :=
      field_update ht (fun _ h => h) hr
    refine ⟨hsound, ?_, ?_, h.queue_same hr hm ht (fun _ h => h) RecordState.noConfusion hqueue⟩
    · have hsettled := hspares.settle (Function.update_self ..) hdest
      rw [Function.update_idem] at hsettled
      rw [hdrop, field_update ht (fun _ h => h) hr]
      exact hsettled
    · rw [hdrop, hnone]
      exact hengine
  unfold Machine.completeMigration
  dsimp only
  refine Repair.startPersist (Repair.serveQueue ?_)
  split
  · next i hi =>
    have hburn : Sound (fun r => HomeLaw r) (burn (keyPos r.key) i s) := h.sound.congr (by simp)
    refine hcomplete (b := s.params.autoPersist) (hburn.completed homeLaw_recordLaw r.key d _ (by simp; rfl)) ?_ ?_ ?_ ?_
    · simp [updateRecord]
    · refine (h.spares.dropHome (hhome.trans hi) (st := .burned) (by decide)).congr fun p j => ?_
      simp [withSpare, burn, spareState_setSpare]
    · simp
    · simpa using hstep
  · next hi =>
    refine hcomplete (b := s.params.autoPersist) (h.sound.completed homeLaw_recordLaw r.key d _ (by simp; rfl)) ?_ ?_ ?_ ?_
    · simp [updateRecord]
    · rw [← hi, ← hhome, Function.update_eq_self]
      simpa using h.spares
    · simp
    · simpa using hstep

end

end Sys2Proof.Machine
end

section
/-! PROOFS. Events, creation and release, the load, and the laws as they are stated (O58). -/

namespace Sys2Proof.Machine

section
variable {s t : State} {k : RowKey} {r : Record}

/-! ### Events and decay (R61, R92 to R98) -/

theorem Repair.applyVerdict (h : Repair s) (hr : lookup s r.key = some r) (p : Params) (u : Bool) :
    Repair (applyVerdict r (evaluate p u r) s) := by
  have hsound := h.sound.applyVerdict homeLaw_recordLaw (lookup_mem hr) p u
  rcases evaluate_cases p u r with hv | ⟨hv | hv | hv, hst⟩ | ⟨hv, hst⟩ <;> rw [hv] at hsound ⊢
  · exact h
  · refine h.update hsound (fun _ h => h) hr ⟨rfl, rfl, ?_⟩
    rw [Record.queuedAs_none RecordState.noConfusion, Record.queuedAs_none]
    rcases hst with e | e | e <;> simp [e]
  · exact h.enqueue hr (by rcases hst with e | e | e <;> simp [e]) false
  · exact h.enqueue hr (by rcases hst with e | e | e <;> simp [e]) true
  · unfold Machine.applyVerdict at hsound ⊢
    dsimp only at hsound ⊢
    split
    · next hq => exact h.enqueue hr (by simp [hq]) true
    · next hq =>
      rw [if_neg hq] at hsound
      exact h.update hsound (fun _ h => h) hr ⟨rfl, rfl, by rw [Record.queuedAs_none (r := r) hq]; exact Record.queuedAs_none hq⟩

theorem Repair.applyEvent (ev : ErrorEvent) (h : Repair s) (hr : lookup s r.key = some r) : Repair (applyEvent ev r s) := by
  obtain ⟨hhome, hdest, -, hurgent⟩ := r.score_sparing s.params ev
  have hkey := r.score_key s.params ev
  have hscored : Repair (updateRecord r.key (fun _ => r.score s.params ev) s) :=
    h.update (h.sound.scored homeLaw_recordLaw ev (lookup_mem hr)) (fun _ _ => hkey) hr
      ⟨hhome, hdest, by rw [Record.queuedAs, r.score_state, hurgent, Record.queuedAs]⟩
  have hlookup : lookup (updateRecord r.key (fun _ => r.score s.params ev) s) (r.score s.params ev).key =
      some (r.score s.params ev) := by
    rw [lookup_updateRecord _ _ _ _ fun _ _ => hkey, if_pos hkey, hkey, hr]
    rfl
  unfold Machine.applyEvent
  dsimp only
  split
  · have hraised : Repair (raise .uncorrectable (updateRecord r.key (fun _ => r.score s.params ev) s)) :=
      hscored.same (by simp [RepairSame])
    exact hraised.applyVerdict ((lookup_congr (by simp) _).trans hlookup) _ _
  · exact hscored.applyVerdict hlookup _ _

theorem Record.decay_sparing (p : Params) (r : Record) : (r.decay p).key = r.key ∧ (r.decay p).homeSpare = r.homeSpare ∧
    (r.decay p).destSpare = r.destSpare ∧ (r.decay p).queuedAs = r.queuedAs := by
  unfold Record.decay
  dsimp only
  split
  · next hst =>
    refine ⟨rfl, rfl, rfl, ?_⟩
    rw [Record.queuedAs_none (r := r) (by simp [hst.1]), Record.queuedAs_none]
    dsimp only
    split <;> simp
  · exact ⟨rfl, rfl, rfl, rfl⟩

/-- Records on watch leave the table: no law of sparing reads anything of them. -/
theorem Repair.leave (h : Repair s) {p : Record → Bool} (ht : t.table = s.table.filter p)
    (hp : ∀ r ∈ s.table, p r = false → r.state = .watch) (hspares : t.spares = s.spares) (hqueue : t.queue = s.queue)
    (hstep : t.engine.step = s.engine.step) : Repair t := by
  have hread {α : Type} {g : Record → Option α} (hg : ∀ r ∈ s.table, r.state = .watch → g r = none) :
      field g t = field g s :=
    field_filter h.sound.table ht fun r hr hpr => hg r hr (hp r hr hpr)
  refine h.of_fields (h.sound.filter ht) (hread fun r hr hw => ?_) (hread fun r hr hw => ?_) (hread fun r _ hw => ?_)
    (fun _ _ => by rw [hspares]) hqueue (.of_eq hstep)
  · exact (h.sound.records r hr).1.1 hw
  · exact (destination_none (h.sound.records r hr).2 (by simp [hw])).1
  · exact Record.queuedAs_none (by simp [hw])

theorem Repair.decayAll (h : Repair s) : Repair (decayAll s) := by
  have hdecayed : Repair (s.setTable (s.table.map (Record.decay s.params))) := by
    refine h.map (h.sound.map rfl fun r _ => ?_) rfl (Record.decay_sparing _) rfl rfl rfl
    exact ⟨r.decay_place _, fun hr hd => ⟨homeLaw_recordLaw.decay _ hr, destinationLaw_decay _ hd⟩⟩
  refine hdecayed.leave rfl (fun r _ hf => ?_) rfl rfl rfl
  have hf : r.faded = true := by simpa using hf
  simp only [Record.faded, Bool.and_eq_true, beq_iff_eq] at hf
  exact hf.1.1.1.1

/-! ### Creation and release (R57, R62, R64, R72) -/

theorem Repair.makeRoom (h : Repair s) {n : Fin 256} {table : List Record} (hroom : makeRoom s.table = some (n, table)) :
    Repair (s.setTable table) := by
  rcases makeRoom_some hroom with ⟨rfl, -⟩ | ⟨v, hv, he, -, rfl⟩
  · exact h
  · refine h.leave rfl (fun r hr hp => ?_) rfl rfl rfl
    have hslot : r.slot = v.slot := by simpa using hp
    rw [record_of_slot h.sound.table hv hr hslot]
    exact (v.evictable_iff.1 he).1

theorem Repair.createRecord {g : Origin} {change : Record → Record} (h : Repair s) (hk : lookup s k = none)
    (hchange : ∀ r, Retouched r (change r)) (hcreate : createRecord k g change s = some (r, t)) : Repair t := by
  have hsound := h.sound.createRetouched homeLaw_recordLaw hk hchange hcreate
  obtain ⟨n, table, hroom, rfl, rfl⟩ := createRecord_spec hcreate
  have hc := hchange (.fresh n k g)
  have hnew : lookup (s.setTable table) (change (.fresh n k g)).key = none := by
    rw [hc.key]
    exact lookup_eq_none.2 fun x hx => lookup_eq_none.1 hk x (makeRoom_subset hroom x hx)
  exact (h.makeRoom hroom).of_fields hsound (field_append_none hnew rfl hc.homeSpare) (field_append_none hnew rfl hc.destSpare)
    (field_append_none hnew rfl hc.queuedAs) (fun _ _ => Iff.rfl) rfl (.of_eq rfl)

theorem Repair.receiveEvent (ev : ErrorEvent) (h : Repair s) : Repair (receiveEvent ev s) := by
  have hcount : Repair (countEvent ev s) := h.same (by simp [RepairSame])
  unfold Machine.receiveEvent
  dsimp only
  split
  · next r hr => exact hcount.applyEvent ev (by rw [lookup_key hr]; exact hr)
  · next hk =>
    split
    · next r t hcreate =>
      have hr := lookup_created hk (fun _ => rfl) hcreate
      exact (hcount.createRecord hk .refl hcreate).applyEvent ev (by rw [lookup_key hr]; exact hr)
    · exact hcount.same (by simp [RepairSame])

theorem Record.releasable_iff (r : Record) :
    r.releasable = true ↔ r.homeSpare = none ∧ r.state ≠ .migrating ∧ r.state ≠ .spared := by
  unfold Record.releasable
  cases r.state <;> simp

theorem Repair.release (h : Repair s) (hr : lookup s k = some r) (hok : r.releasable = true) : Repair (releaseRecord k s) := by
  obtain ⟨hhome, hm, -⟩ := r.releasable_iff.1 hok
  have hread {α : Type} {g : Record → Option α} (hg : g r = none) : field g (releaseRecord k s) = field g s := by
    rw [field_erase h.sound.table rfl, ← (field_of_lookup hr).trans hg, Function.update_eq_self]
  refine ⟨h.sound.filter rfl, ?_, ?_, ?_⟩
  · rw [hread hhome, hread (h.dest_none hr hm)]
    exact h.spares
  · rw [hread (h.dest_none hr hm)]
    exact h.engine
  · rw [field_erase h.sound.table rfl]
    exact h.queue.remove k

/-- The record leaves the queue, auto-spare blocked (R164). -/
theorem Repair.abortQueued (h : Repair s) (hr : lookup s k = some r) (hq : r.state = .queued) :
    Repair (updateRecord k Record.abort (s.setQueue (s.queue.remove k))) := by
  have ht : (updateRecord k Record.abort (s.setQueue (s.queue.remove k))).table = (updateRecord k Record.abort s).table := rfl
  have hdest : field Record.destSpare (updateRecord k Record.abort (s.setQueue (s.queue.remove k))) =
      field Record.destSpare s :=
    field_update_same ht (fun _ h => h) fun x hx => by
      cases hr.symm.trans hx
      exact (h.dest_none hr (by simp [hq])).symm
  refine ⟨h.sound.abort homeLaw_recordLaw k ht, ?_, ?_, ?_⟩
  · rw [field_update_same ht (fun _ h => h) fun _ _ => rfl, hdest]
    exact h.spares
  · rw [hdest]
    exact h.engine
  · rw [field_update ht (fun _ h => h) hr, Record.queuedAs_none]
    · exact h.queue.remove k
    · simp only [Record.abort, Record.settle]
      split <;> simp

/-! ### Checks judged, and the load (R157, R169, R170) -/

theorem Repair.judge (h : Repair s) {st : MigStep} (hst : s.engine.step = some st) (hl : st.leftover = false)
    (outcome : LineOutcome) : Repair (judgeCheck st outcome (endStep s)) := by
  obtain ⟨r, hr, hd⟩ := field_some.1 (h.engine.step st hst hl)
  have hm : r.state = .migrating := by
    by_contra hm
    rw [h.dest_none hr hm] at hd
    cases hd
  have hend : Repair (endStep s) := h.aside (by simp) (fun _ _ => by simp) (by simp) (.of_none rfl)
  have hr' : lookup (endStep s) r.key = some r := by
    rw [lookup_key hr]
    exact (lookup_congr (by simp) _).trans hr
  have hsound := hend.sound.judgeCheck homeLaw_recordLaw st outcome
  have hrecord : lineRecord (endStep s) st.line = some r := by
    rw [lineRecord, ← lookup_key hr]
    exact hr'
  unfold judgeCheck at hsound ⊢
  rw [hrecord] at hsound ⊢
  dsimp only at hsound ⊢
  split
  · next hpass =>
    rw [if_pos hpass] at hsound
    unfold passCheck at hsound ⊢
    split
    · next m hmig =>
      split
      · exact hend.completeMigration hr' hm hd rfl
      · next hlast =>
        rw [hmig] at hsound
        dsimp only at hsound
        rw [if_neg hlast] at hsound
        exact hend.update hsound (fun _ h => h) hr' ⟨rfl, rfl, rfl⟩
    · exact hend
  · exact hend.failAttempt hr' hm hd

theorem warnLow_spares (p : BankPos) (s : State) : (warnLow p s).spares = s.spares := by simp

theorem Repair.installBadSpare (b : SpareName) (h : Repair s) : Repair (installBadSpare b s) := by
  unfold Machine.installBadSpare
  split
  · exact h
  · split
    · next hfree =>
      refine h.aside (by simp) (fun p i => ?_) (by simp) (.of_eq (by simp))
      rw [warnLow_spares, spareState_setSpare]
      split
      · next he => obtain ⟨rfl, rfl⟩ := he; simp [hfree]
      · rfl
    · exact h
    · exact h

theorem Move.repair (hm : Move s t) (h : Repair s) : Repair t := by
  cases hm with
  | aside htable hspares hqueue hstep => exact h.aside htable (fun _ _ => by rw [hspares]) hqueue hstep
  | retouch _ f hf => exact h.retouch hf
  | event ev _ => exact h.receiveEvent ev
  | decay => exact h.decayAll
  | create hk hchange hcreate => exact h.createRecord hk hchange hcreate
  | release hr hok => exact h.release hr hok
  | enqueue hr hmig urgent => exact h.enqueue hr hmig urgent
  | abortQueued hr hq => exact h.abortQueued hr hq
  | abortMigrating hr hmig => exact h.abortMigrating hr hmig
  | fail hr hmig hd => exact h.failAttempt hr hmig hd
  | judge hst hl outcome => exact h.judge hst hl outcome
  | badSpare b _ => exact h.installBadSpare b

/-- With every record SPARED, a spare that is neither BURNED nor a home of the bank is FREE. -/
theorem Repair.free_of_no_home (h : Repair s) (hspared : ∀ r ∈ s.table, r.state = .spared) {i : SpareIdx}
    (hburned : spareState s.spares (keyPos k) i ≠ .burned)
    (hhome : ∀ r ∈ s.table, keyPos r.key = keyPos k → r.homeSpare ≠ some i) : spareState s.spares (keyPos k) i = .free := by
  cases hst : spareState s.spares (keyPos k) i with
  | free => rfl
  | burned => exact absurd hst hburned
  | assigned =>
    obtain ⟨x, hx, hi⟩ := (h.spares.assigned _ _).1 hst
    rw [h.idle (fun r hr => by simp [hspared r hr])] at hi
    obtain ⟨r, hr, hri⟩ := field_some.1 (hi.resolve_right (by simp))
    exact absurd hri (hhome r (lookup_mem hr) (by rw [lookup_key hr, hx]))

/-- The home of a record moves to a FREE spare, and the old one is BURNED. -/
theorem Repair.rehome (h : Repair s) (hr : lookup s k = some r) {i j : SpareIdx} (hj : r.homeSpare = some j)
    (hfree : spareState s.spares (keyPos k) i = .free) (hsound : Sound (fun r => HomeLaw r) t)
    (ht : t.table = (updateRecord k (fun r => { r with homeSpare := some i }) s).table)
    (hspares : ∀ p n, spareState t.spares p n =
      withSpare (withSpare (spareState s.spares) (keyPos k) j .burned) (keyPos k) i .assigned p n)
    (hqueue : t.queue = s.queue) (hstep : t.engine.step = s.engine.step) : Repair t := by
  have hij : i ≠ j := by
    rintro rfl
    have := (h.spares.assigned (keyPos k) i).2 ⟨k, rfl, .inl (field_some.2 ⟨r, hr, hj⟩)⟩
    rw [hfree] at this
    cases this
  have hdropped := h.spares.dropHome ((field_of_lookup hr).trans hj) (st := .burned) (by decide)
  have hmoved := hdropped.takeHome (k := k) (i := i) (Function.update_self ..) (by simp [withSpare, hij, hfree])
  rw [Function.update_idem] at hmoved
  refine ⟨hsound, ?_, ?_, ?_⟩
  · rw [field_update ht (fun _ h => h) hr, field_update_same ht (fun _ h => h) fun _ _ => rfl]
    exact hmoved.congr fun p n => by rw [hspares]
  · rw [field_update_same ht (fun _ h => h) fun _ _ => rfl, hstep]
    exact h.engine
  · rw [field_update_same ht (fun _ h => h) fun _ _ => rfl, hqueue]
    exact h.queue

/-- A new record of the load takes a FREE spare for its home. -/
theorem Repair.newHome (h : Repair s) {i : SpareIdx} (hk : lookup s r.key = none) (hhome : r.homeSpare = some i)
    (hdest : r.destSpare = none) (hqueued : r.queuedAs = none) (hfree : spareState s.spares (keyPos r.key) i = .free)
    (hsound : Sound (fun r => HomeLaw r) t) (ht : t.table = s.table ++ [r])
    (hspares : ∀ p n, spareState t.spares p n = withSpare (spareState s.spares) (keyPos r.key) i .assigned p n)
    (hqueue : t.queue = s.queue) (hstep : t.engine.step = s.engine.step) : Repair t := by
  have hnone : field Record.homeSpare s r.key = none := by rw [field, hk]; rfl
  refine ⟨hsound, ?_, ?_, ?_⟩
  · rw [field_append hk ht, hhome, field_append_none hk ht hdest]
    exact (h.spares.takeHome hnone hfree).congr fun p n => by rw [hspares]
  · rw [field_append_none hk ht hdest, hstep]
    exact h.engine
  · rw [field_append_none hk ht hqueued, hqueue]
    exact h.queue

theorem allocate_spares (p q : BankPos) (i j : SpareIdx) (s : State) :
    spareState (allocate p i s).spares q j = withSpare (spareState s.spares) p i .assigned q j := by
  rw [allocate, warnLow_spares, spareState_setSpare]
  rfl

/-- A REPAIR slot moves the home of a SPARED record, or makes one (R169). -/
theorem Repair.installRepair (k : RowKey) (i : SpareIdx) (h : Repair s) (hspared : ∀ r ∈ s.table, r.state = .spared) :
    Repair (installRepair k i s) := by
  have hsound := h.sound.installRepair k i (fun r hr _ => ⟨fun hw => by simp [hspared r hr] at hw, fun _ => rfl⟩)
    (fun n => ⟨RecordState.noConfusion, fun _ => rfl⟩)
  unfold Machine.installRepair at hsound ⊢
  dsimp only at hsound ⊢
  split
  · exact h
  · next hburned =>
    split
    · exact h
    · next hother =>
      rw [if_neg hburned, if_neg hother] at hsound
      have hother : ∀ r ∈ s.table, keyPos r.key = keyPos k → r.homeSpare = some i → r.key = k := by
        simpa [isHome] using hother
      split
      · next r hr =>
        split
        · exact h
        · next hmoved =>
          have hfree := h.free_of_no_home hspared hburned fun x hx hpos hi => hmoved (by
            rw [← record_of_key h.sound.table (lookup_mem hr) hx ((hother x hx hpos hi).trans (lookup_key hr).symm)]
            exact hi)
          obtain ⟨j, hj⟩ := Option.isSome_iff_exists.1 ((h.homeLaw hr).2 (hspared r (lookup_mem hr)))
          rw [hr] at hsound
          dsimp only at hsound
          rw [if_neg hmoved, hj] at hsound
          rw [hj]
          refine h.rehome hr hj hfree hsound (by simp [updateRecord]) (fun p n => ?_) (by simp) (by simp)
          refine (allocate_spares (keyPos k) p i n (setSpare (keyPos k) j .burned s)).trans ?_
          simp only [withSpare, spareState_setSpare]
      · next hk =>
        rw [hk] at hsound
        dsimp only at hsound
        split
        · next x t hcreate =>
          rw [hcreate] at hsound
          dsimp only at hsound
          have hfree := h.free_of_no_home hspared hburned fun x hx hpos hi =>
            lookup_eq_none.1 hk x hx (hother x hx hpos hi)
          obtain ⟨n, table, hroom, rfl, rfl⟩ := createRecord_spec hcreate
          have hnew : lookup (s.setTable table) k = none :=
            lookup_eq_none.2 fun x hx => lookup_eq_none.1 hk x (makeRoom_subset hroom x hx)
          exact (h.makeRoom hroom).newHome (r := .loaded i (.fresh n k .store)) hnew rfl rfl rfl hfree hsound (by simp)
            (fun p j => allocate_spares _ _ _ _ _) (by simp) (by simp)
        · exact h

/-! ### The laws as they are stated -/

theorem countP_le_one_iff {l : List Record} (hl : l.Nodup) (p : Record → Bool) :
    l.countP p ≤ 1 ↔ ∀ a ∈ l, ∀ b ∈ l, p a = true → p b = true → a = b := by
  rw [List.countP_eq_length_filter, ← List.toFinset_card_of_nodup (hl.filter p), Finset.card_le_one]
  simp only [List.mem_toFinset, List.mem_filter]
  exact ⟨fun h a ha b hb hpa hpb => h a ⟨ha, hpa⟩ b ⟨hb, hpb⟩, fun h a ha b hb => h a ha.1 b hb.1 ha.2 hb.2⟩

theorem table_nodup (h : TableLaw s) : s.table.Nodup := h.1.of_map

theorem sound_iff : Sound (fun r => HomeLaw r) s ↔ TableLaw s ∧ ∀ r ∈ s.table, DestinationLaw r ∧ HomeLaw r :=
  ⟨fun h => ⟨h.table, fun r hr => (h.records r hr).symm⟩, fun h => ⟨h.1, fun r hr => (h.2 r hr).symm⟩⟩

/-- In a lawful table, what is read under a key is read of a record of that key. -/
theorem field_some_mem (h : TableLaw s) {α : Type} {g : Record → Option α} {a : α} :
    field g s k = some a ↔ ∃ r ∈ s.table, r.key = k ∧ g r = some a := by
  rw [field_some]
  constructor
  · rintro ⟨r, hr, ha⟩
    exact ⟨r, lookup_mem hr, lookup_key hr, ha⟩
  · rintro ⟨r, hr, rfl, ha⟩
    exact ⟨r, lookup_of_mem h hr, ha⟩

theorem queueLaw_iff (h : TableLaw s) : QueueLaw s ↔ QueueAgrees (field Record.queuedAs s) s.queue := by
  have hpart (x : RowKey) : x ∈ s.queue.urgent ++ s.queue.normal ↔ ∃ u, x ∈ s.queue.part u := by
    simp [MigQueue.part, or_comm]
  have hread {x : RowKey} {u : Bool} : field Record.queuedAs s x = some u ↔
      ∃ r ∈ s.table, r.key = x ∧ r.state = .queued ∧ r.urgent = u := by
    rw [field_some_mem h]
    simp only [Record.queuedAs_some]
  constructor
  · rintro ⟨hnodup, hurgent, hnormal, hall⟩
    have hone {x : RowKey} {u : Bool} (hx : x ∈ s.queue.part u) : field Record.queuedAs s x = some u := by
      cases u with
      | true => exact hread.2 (hurgent x hx)
      | false => exact hread.2 (hnormal x hx)
    refine ⟨hnodup, fun x u => ⟨hone, fun hx => ?_⟩⟩
    obtain ⟨r, hr, rfl, hq, -⟩ := hread.1 hx
    obtain ⟨v, hv⟩ := (hpart _).1 (hall r hr hq)
    cases (hone hv).symm.trans hx
    exact hv
  · rintro ⟨hnodup, hmem⟩
    refine ⟨hnodup, fun x hx => hread.1 ((hmem x true).1 hx), fun x hx => hread.1 ((hmem x false).1 hx), fun r hr hq => ?_⟩
    exact (hpart _).2 ⟨r.urgent, (hmem _ _).2 (hread.2 ⟨r, hr, rfl, hq, rfl⟩)⟩

/-- The record has the destination if and only if it migrates onto it. -/
theorem destSpare_some {d : SpareIdx} (h : DestinationLaw r) :
    r.destSpare = some d ↔ r.state = .migrating ∧ r.destSpare = some d := by
  refine ⟨fun hd => ⟨by_contra fun hm => ?_, hd⟩, And.right⟩
  rw [(destination_none h hm).1] at hd
  cases hd

theorem engineLaw_iff (h : Sound (fun r => HomeLaw r) s) :
    EngineLaw s ∧ StepLaw s ↔ EngineAgrees (field Record.destSpare s) s.engine.step := by
  have hread {x : RowKey} {d : SpareIdx} : field Record.destSpare s x = some d ↔
      ∃ r ∈ s.table, r.key = x ∧ r.state = .migrating ∧ r.destSpare = some d := by
    rw [field_some_mem h.table]
    exact exists_congr fun r => and_congr_right fun hr => and_congr_right fun _ => destSpare_some (h.records r hr).2
  rw [EngineLaw, countP_le_one_iff (table_nodup h.table)]
  simp only [beq_iff_eq]
  constructor
  · rintro ⟨hone, hstep⟩
    refine ⟨fun x y i j hx hy => ?_, fun st hst hl => hread.2 (hstep st hst hl)⟩
    obtain ⟨a, ha, rfl, hma, -⟩ := hread.1 hx
    obtain ⟨b, hb, rfl, hmb, -⟩ := hread.1 hy
    rw [hone a ha b hb hma hmb]
  · rintro ⟨hone, hstep⟩
    refine ⟨fun a ha b hb hma hmb => ?_, fun st hst hl => hread.1 (hstep st hst hl)⟩
    obtain ⟨i, -, hi, -⟩ := destination_some (h.records a ha).2 hma
    obtain ⟨j, -, hj, -⟩ := destination_some (h.records b hb).2 hmb
    exact record_of_key h.table hb ha (hone _ _ i j (hread.2 ⟨a, ha, rfl, hma, hi⟩) (hread.2 ⟨b, hb, rfl, hmb, hj⟩))

theorem spareLaw_iff (h : TableLaw s) :
    SpareLaw s ↔ SparesAgree (field Record.homeSpare s) (field Record.destSpare s) (spareState s.spares) := by
  have hnames {x : RowKey} {i : SpareIdx} : field Record.homeSpare s x = some i ∨ field Record.destSpare s x = some i ↔
      ∃ r ∈ s.table, r.key = x ∧ (r.homeSpare = some i ∨ r.destSpare = some i) := by
    simp only [field_some_mem h, and_or_left, exists_or]
  have hcount (p : BankPos) (i : SpareIdx) :
      (s.table.countP fun r => keyPos r.key == p && (r.homeSpare == some i || r.destSpare == some i)) = 1 ↔
        (∃ r ∈ s.table, keyPos r.key = p ∧ (r.homeSpare = some i ∨ r.destSpare = some i)) ∧
        ∀ a ∈ s.table, ∀ b ∈ s.table, keyPos a.key = p ∧ (a.homeSpare = some i ∨ a.destSpare = some i) →
          keyPos b.key = p ∧ (b.homeSpare = some i ∨ b.destSpare = some i) → a = b := by
    rw [Nat.le_antisymm_iff, countP_le_one_iff (table_nodup h), and_comm]
    exact and_congr (by simp [Nat.one_le_iff_ne_zero, List.countP_eq_zero, or_iff_not_imp_left]) (by simp)
  simp only [SpareLaw, hcount]
  constructor
  · rintro ⟨hapart, hassigned, hone⟩
    refine ⟨fun x i hd hh => ?_, fun p i => ⟨fun ha => ?_, ?_⟩, fun x y i hp hx hy => ?_⟩
    · obtain ⟨r, hr, rfl, hri⟩ := (field_some_mem h).1 hd
      obtain ⟨x, hx, hk, hxi⟩ := (field_some_mem h).1 hh
      exact hapart r hr i hri (record_of_key h hr hx hk ▸ hxi)
    · obtain ⟨⟨r, hr, hp, hi⟩, -⟩ := hone p i ha
      exact ⟨r.key, hp, hnames.2 ⟨r, hr, rfl, hi⟩⟩
    · rintro ⟨x, rfl, hx⟩
      obtain ⟨r, hr, rfl, hi⟩ := hnames.1 hx
      exact hassigned r hr i hi
    · obtain ⟨a, ha, rfl, hai⟩ := hnames.1 hx
      obtain ⟨b, hb, rfl, hbi⟩ := hnames.1 hy
      rw [(hone _ i (hassigned a ha i hai)).2 a ha b hb ⟨rfl, hai⟩ ⟨hp.symm, hbi⟩]
  · rintro ⟨hapart, hassigned, honce⟩
    have hread {r : Record} (hr : r ∈ s.table) {α : Type} {g : Record → Option α} {a : α} (ha : g r = some a) :
        field g s r.key = some a := (field_some_mem h).2 ⟨r, hr, rfl, ha⟩
    refine ⟨fun r hr i hd hh => hapart r.key i (hread hr hd) (hread hr hh),
      fun r hr i hi => (hassigned _ i).2 ⟨r.key, rfl, hnames.2 ⟨r, hr, rfl, hi⟩⟩, fun p i hi => ⟨?_, ?_⟩⟩
    · obtain ⟨x, hp, hx⟩ := (hassigned p i).1 hi
      obtain ⟨r, hr, rfl, hi⟩ := hnames.1 hx
      exact ⟨r, hr, hp, hi⟩
    · rintro a ha b hb ⟨rfl, hai⟩ ⟨hp, hbi⟩
      exact record_of_key h hb ha
        (honce _ _ i hp.symm (hnames.2 ⟨a, ha, rfl, hai⟩) (hnames.2 ⟨b, hb, rfl, hbi⟩))

theorem repairLaw_iff : RepairLaw s ↔ Repair s ∧ LoadLaw s := by
  constructor
  · rintro ⟨htable, hrecords, hengine, hstep, hqueue, hspares, hload⟩
    have hsound := sound_iff.2 ⟨htable, hrecords⟩
    exact ⟨⟨hsound, (spareLaw_iff htable).1 hspares, (engineLaw_iff hsound).1 ⟨hengine, hstep⟩,
      (queueLaw_iff htable).1 hqueue⟩, hload⟩
  · rintro ⟨h, hload⟩
    obtain ⟨htable, hrecords⟩ := sound_iff.1 h.sound
    obtain ⟨hengine, hstep⟩ := (engineLaw_iff h.sound).2 h.engine
    exact ⟨htable, hrecords, hengine, hstep, (queueLaw_iff htable).2 h.queue, (spareLaw_iff htable).2 h.spares, hload⟩

end

theorem Repair.reset : Repair State.reset where
  sound := ⟨⟨List.nodup_nil, List.nodup_nil⟩, fun r hr => by cases hr⟩
  spares := by
    refine ⟨fun k i hd => (by cases hd), fun p i => ?_, fun k k' i _ hk => ?_⟩
    · rw [show State.reset.spares = [] from rfl, spareState_nil]
      refine ⟨SpareState.noConfusion, ?_⟩
      rintro ⟨k, -, hk | hk⟩ <;> cases hk
    · rcases hk with hk | hk <;> cases hk
  engine := ⟨fun k k' d d' hd => (by cases hd), fun st hst => (by cases hst)⟩
  queue := ⟨List.nodup_nil, fun k u => ⟨fun h => (by cases u <;> cases h), fun h => (by cases h)⟩⟩

/-- Settles O58: a step is a reset, a REPAIR slot of the load or a chain of moves; each of them keeps the agreement, and the
LOADING part is the law of O57. -/
theorem repairStateStaysLawful : Obligations.RepairStateStaysLawful := by
  intro s t hlaw hstep
  obtain ⟨h, hload⟩ := repairLaw_iff.1 hlaw
  refine repairLaw_iff.2 ⟨?_, loadingStaysIdle s t hload hstep⟩
  rcases step_moved hstep with hm | ⟨rest, -, he⟩ | ⟨lost, held, rest, -, he⟩
  · exact hm.keeps Move.repair h
  · obtain rfl := Host.Outcome.next.inj he
    have hrest : Repair (s.setPending rest) := h.same (by simp [RepairSame])
    split
    · next hp =>
      split
      · next k i _ =>
        have hspared : ∀ r ∈ s.table, r.state = .spared := fun r hr => ((loadLaw_iff.1 hload hp).records r hr).1
        exact (hrest.installRepair k i hspared).same (by simp [RepairSame])
      · exact hrest
    · exact hrest
  · obtain rfl := Host.Outcome.next.inj he
    exact Repair.reset.same (by simp [RepairSame])

end Sys2Proof.Machine
end

section
/-! PROOFS. Error events, whole (O20, O23). -/

namespace Sys2Proof.Machine

/-! ### What an event reports and what it counts (R46, R60, R91) -/

theorem countEvent_eq (ev : ErrorEvent) (s : State) :
    countEvent ev s = { s with counters := (countEvent ev s).counters } := by
  unfold countEvent
  (repeat' split) <;> rfl

theorem countEvent_hostCorrected {l : LineAddr} {g : Origin} (c : Cell) (s : State) (hg : g = .hostRead ∨ g = .maskedWrite) :
    countEvent ⟨l, g, .correction c⟩ s =
      { s with counters := { s.counters with hostCorrected := min (s.counters.hostCorrected + 1) 4294967295 } } := by
  rcases hg with rfl | rfl <;> rfl

theorem countEvent_patrolCorrected {l : LineAddr} {g : Origin} (c : Cell) (s : State)
    (hg : g = .patrol ∨ g = .verify ∨ g = .copy) :
    countEvent ⟨l, g, .correction c⟩ s =
      { s with counters := { s.counters with patrolCorrected := min (s.counters.patrolCorrected + 1) 4294967295 } } := by
  rcases hg with rfl | rfl | rfl <;> rfl

/-! ### The signature rule (R86) -/

theorem matchSignature_same (c : Cell) (n : Nat) : matchSignature c (some ⟨c, n⟩) = (⟨c, min (n + 1) 15⟩, true) := by
  simp [matchSignature]

theorem matchSignature_replaced {c c' : Cell} (h : c' ≠ c) : matchSignature c (some ⟨c', 1⟩) = (⟨c, 1⟩, false) := by
  simp [matchSignature, h]

theorem matchSignature_kept {c c' : Cell} {n : Nat} (h : c' ≠ c) (hn : 2 ≤ n) :
    matchSignature c (some ⟨c', n⟩) = (⟨c', n⟩, false) := by
  simp [matchSignature, h, Nat.not_le.2 hn]

/-! ### The event applied (R61, R85, R92) -/

/-- What an event leaves to the evaluation to change. -/
def Record.scores : Record → Record := Record.settle .watch

theorem scores_ignoresProgress : IgnoresProgress Record.scores := fun _ _ _ _ _ => rfl

theorem scores_congr {α : Type} {a b : Record} (h : a.scores = b.scores) (f : Record → α) (hf : ∀ r, f (.scores r) = f r) :
    f a = f b := by
  rw [← hf a, h, hf]

theorem receiveEvent_tracked {ev : ErrorEvent} {r : Record} {s : State} (h : lineRecord s ev.line = some r) :
    receiveEvent ev s = applyEvent ev r (countEvent ev s) := by
  have hcount : lineRecord (countEvent ev s) ev.line = some r := by rw [← h]; exact lineRecord_congr (by simp) _
  unfold receiveEvent
  dsimp only
  rw [hcount]

/-- A correction event on a row that has a record: the verdict on the record as scored, applied. -/
theorem receiveEvent_correction {l : LineAddr} {g : Origin} {c : Cell} {r : Record} {s : State}
    (h : lineRecord s l = some r) :
    receiveEvent ⟨l, g, .correction c⟩ s =
      applyVerdict (r.correct s.params g c) (evaluate s.params false (r.correct s.params g c)) { s with
        table := s.table.map fun x => if x.key = lineKey l then r.correct s.params g c else x
        counters := (countEvent ⟨l, g, .correction c⟩ s).counters } := by
  rw [receiveEvent_tracked (ev := ⟨l, g, .correction c⟩) h, countEvent_eq, applyEvent, lookup_key h]
  rfl

theorem receiveEvent_eq_frame (ev : ErrorEvent) (s : State) : receiveEvent ev s = { s with
    table := (receiveEvent ev s).table, spares := (receiveEvent ev s).spares, queue := (receiveEvent ev s).queue
    engine := { s.engine with marked := (receiveEvent ev s).engine.marked }
    attn := (receiveEvent ev s).attn, counters := (receiveEvent ev s).counters } := by
  obtain ⟨-, -, -, -, -, -, -, hstep, -⟩ := receiveEvent_same ev s
  have hengine : { s.engine with marked := (receiveEvent ev s).engine.marked } = (receiveEvent ev s).engine := by
    dsimp only
    rw [← hstep]
  rw [hengine]
  have hframe := receiveEvent_frame ev s
  generalize receiveEvent ev s = u at hframe
  cases s
  cases u
  simp_all

/-- Settles O20: the event is the verdict applied to the record as scored, and no verdict touches the scores. -/
theorem correctionEventScored : Obligations.CorrectionEventScored := by
  intro s l origin c r inc hr hinc
  obtain ⟨r', hr', hscores⟩ := Option.map_eq_some_iff.1
    (receiveEvent_scored scores_ignoresProgress ⟨l, origin, .correction c⟩ r s hr)
  have hincrement : increment s.params origin = inc := by
    rcases hinc with ⟨rfl | rfl, rfl⟩ | ⟨rfl | rfl | rfl, rfl⟩ <;> rfl
  have hsignature : r'.signature = some (matchSignature c r.signature).1 := scores_congr hscores Record.signature fun _ => rfl
  have hweight : r'.weight =
      min 4095 (r.weight + inc + if (matchSignature c r.signature).2 then s.params.bonus else 0) :=
    hincrement ▸ scores_congr hscores Record.weight fun _ => rfl
  have hverdict := receiveEvent_correction (g := origin) (c := c) hr
  have hkept {α : Type} (f : Record → α) (hf : ∀ r, f (.scores r) = f r) : f r' = f (r.correct s.params origin c) :=
    scores_congr hscores f hf
  refine ⟨r', hr', hkept Record.corrections fun _ => rfl, fun hs => ?_, fun n hs => ?_, fun c' hc hs => ?_,
    fun c' n hc hn hs => ?_, hkept Record.slot fun _ => rfl, hkept Record.key fun _ => rfl, hkept Record.origin fun _ => rfl,
    hkept Record.homeSpare fun _ => rfl, hkept Record.poison fun _ => rfl, hkept Record.overflow fun _ => rfl,
    hkept Record.pinned fun _ => rfl, hkept Record.blocked fun _ => rfl, hkept Record.persisted fun _ => rfl,
    hkept Record.persistWanted fun _ => rfl, ?_, _, _, _, _, _, receiveEvent_eq_frame _ s, _, rfl, ?_⟩
  · rw [hsignature, hweight, hs]
    exact ⟨rfl, rfl⟩
  · rw [hsignature, hweight, hs, matchSignature_same]
    exact ⟨rfl, rfl⟩
  · rw [hsignature, hweight, hs, matchSignature_replaced hc]
    exact ⟨rfl, rfl⟩
  · rw [hsignature, hweight, hs, matchSignature_kept hc hn]
    exact ⟨rfl, rfl⟩
  · rw [hverdict]
    simp only [applyVerdict_frame]
    rcases hinc with ⟨hg, -⟩ | ⟨hg, -⟩
    · rw [if_pos hg, countEvent_hostCorrected c s hg]
    · rw [if_neg (by rcases hg with rfl | rfl | rfl <;> decide), countEvent_patrolCorrected c s hg]
  · have hcorrect : { r with
        corrections := min (r.corrections + 1) 65535, signature := r'.signature, weight := r'.weight } =
        r.correct s.params origin c := by
      rw [hsignature, hweight, ← hincrement]
      rfl
    have hcounters : (receiveEvent ⟨l, origin, .correction c⟩ s).counters =
        (countEvent ⟨l, origin, .correction c⟩ s).counters := by
      rw [hverdict]
      simp only [applyVerdict_frame]
    rw [hcorrect, hcounters]
    exact hverdict

/-! ### The event that makes its record (R57, R61 to R63) -/

theorem updateRecord_keys (k : RowKey) (f : Record → Record) (s : State) (hf : ∀ r, (f r).key = r.key) :
    (updateRecord k f s).table.map Record.key = s.table.map Record.key := by
  simp only [updateRecord, State.setTable_table, List.map_map]
  refine List.map_congr_left fun r _ => ?_
  simp only [Function.comp_apply]
  split
  · exact hf r
  · rfl

theorem takeHeads_keys (n : Nat) (s : State) : (takeHeads n s).table.map Record.key = s.table.map Record.key := by
  induction n generalizing s with
  | zero => rfl
  | succ n ih =>
    unfold takeHeads
    split
    · rfl
    · split
      · rfl
      · dsimp only
        split
        · next d _ =>
          rw [startAttempt, updateRecord_keys _ (Record.startAttempt d 1) _ fun _ => rfl]
          simp
        · rw [ih, condemn, raise, State.setAttn_table, updateRecord_keys _ (Record.settle .condemned) _ fun _ => rfl]
          rfl

theorem enqueue_keys (k : RowKey) (u : Bool) (s : State) : (enqueue k u s).table.map Record.key = s.table.map Record.key := by
  rw [enqueue, serveQueue, takeHeads_keys]
  exact updateRecord_keys k (Record.enqueued u) s fun _ => rfl

/-- No verdict brings a record or moves one. -/
theorem applyVerdict_keys (r : Record) (v : Verdict) (s : State) :
    (applyVerdict r v s).table.map Record.key = s.table.map Record.key := by
  unfold applyVerdict
  split
  · rfl
  · exact updateRecord_keys _ _ s fun _ => rfl
  · exact enqueue_keys _ _ s
  · split
    · exact enqueue_keys _ _ s
    · exact updateRecord_keys _ _ s fun _ => rfl

/-- The change of a key's record where that record is the youngest. -/
theorem updateRecord_youngest {t : List Record} {r : Record} (f : Record → Record) (s : State) (h : ∀ x ∈ t, x.key ≠ r.key) :
    updateRecord r.key f (s.setTable (t ++ [r])) = s.setTable (t ++ [f r]) := by
  have hold : t.map (fun x => if x.key = r.key then f x else x) = t := by
    rw [List.map_congr_left fun x hx => if_neg (h x hx), List.map_id']
  simp only [updateRecord, State.setTable_table, State.setTable_setTable, List.map_append, hold, List.map_singleton, if_true]

/-- The record as the event makes and scores it, before its evaluation (R61, R62). -/
def ErrorEvent.made (ev : ErrorEvent) (p : Params) (n : Fin 256) : Record :=
  (Record.fresh n (lineKey ev.line) ev.origin).score p ev

theorem made_correction {l : LineAddr} {g : Origin} {c : Cell} (p : Params) (n : Fin 256) :
    ErrorEvent.made ⟨l, g, .correction c⟩ p n = { Record.fresh n (lineKey l) g with
      corrections := 1, signature := some ⟨c, 1⟩, weight := min 4095 (increment p g) } := by
  simp [ErrorEvent.made, Record.score, Record.correct, Record.fresh, matchSignature, countCorrection, weightMax]

theorem made_uncorrectable {l : LineAddr} {g : Origin} (p : Params) (n : Fin 256) :
    ErrorEvent.made ⟨l, g, .uncorrectable⟩ p n = { Record.fresh n (lineKey l) g with
      corrections := 1, weight := 4095, poison := [lineColumn l] } := by
  simp [ErrorEvent.made, Record.score, Record.lose, Record.fresh, countCorrection, weightMax]

/-- An event on a row without a record, where room is found: the verdict on the record made, applied. -/
theorem receiveEvent_made {ev : ErrorEvent} {s : State} (h : lineRecord s ev.line = none) {n : Fin 256} {t : List Record}
    (hroom : makeRoom s.table = some (n, t)) :
    receiveEvent ev s = applyVerdict (ev.made s.params n) (evaluate s.params ev.kind.isUncorrectable (ev.made s.params n))
      (if ev.kind.isUncorrectable then raise .uncorrectable ((countEvent ev s).setTable (t ++ [ev.made s.params n]))
        else (countEvent ev s).setTable (t ++ [ev.made s.params n])) := by
  have hcount : lineRecord (countEvent ev s) ev.line = none := by rw [← h]; exact lineRecord_congr (by simp) _
  have hcreate := createRecord_some (key := lineKey ev.line) (origin := ev.origin) (change := id) (s := countEvent ev s)
    (n := n) (t := t) (by simpa using hroom)
  have hyoung := updateRecord_youngest (fun _ => ev.made s.params n) (countEvent ev s)
    (r := .fresh n (lineKey ev.line) ev.origin) fun x hx => lookup_eq_none.1 h x (makeRoom_subset hroom x hx)
  have hloss : (Record.fresh n (lineKey ev.line) ev.origin).newLoss ev = ev.kind.isUncorrectable := by
    simp [Record.newLoss, Record.fresh]
  unfold receiveEvent
  dsimp only
  rw [hcount, hcreate]
  simp only [id, applyEvent, hloss]
  rw [show (Record.fresh n (lineKey ev.line) ev.origin).score ((countEvent ev s).setTable _).params ev =
    ev.made s.params n from by simp [ErrorEvent.made], hyoung]
  congr 2
  split <;> simp

theorem ErrorEvent.made_fields (ev : ErrorEvent) (p : Params) (n : Fin 256) :
    (ev.made p n).slot = n ∧ (ev.made p n).key = lineKey ev.line ∧ (ev.made p n).origin = ev.origin ∧
      (ev.made p n).corrections = 1 ∧ (ev.made p n).homeSpare = none ∧ (ev.made p n).overflow = false ∧
      (ev.made p n).pinned = false ∧ (ev.made p n).blocked = false ∧ (ev.made p n).persisted = false ∧
      (ev.made p n).persistWanted = false := by
  obtain ⟨l, g, kind⟩ := ev
  cases kind with
  | correction c =>
    rw [made_correction]
    simp [Record.fresh]
  | uncorrectable =>
    rw [made_uncorrectable]
    simp [Record.fresh]

/-- The table has a free slot, the lowest of which the new record takes. -/
theorem eventInFreeSlot {s : State} {ev : ErrorEvent} (h : lineRecord s ev.line = none) {n : Fin 256}
    (hn : lowestSlot s.table = some n) :
    ∃ r' : Record, lineRecord (receiveEvent ev s) ev.line = some r' ∧ r'.scores = (ev.made s.params n).scores ∧
      (receiveEvent ev s).table.map Record.key = s.table.map Record.key ++ [lineKey ev.line] := by
  have hroom := makeRoom_free_slot hn
  obtain ⟨r', hr', hscores⟩ := Option.map_eq_some_iff.1 (receiveEvent_created scores_ignoresProgress ev s h hroom)
  refine ⟨r', hr', hscores, ?_⟩
  obtain ⟨-, hkey, -⟩ := ev.made_fields s.params n
  rw [receiveEvent_made h hroom, applyVerdict_keys]
  split <;> simp [hkey]

/-- Settles O23: the record made is scored as any other, and the evaluation is applied to it. -/
theorem eventWithoutRecord : Obligations.EventWithoutRecord := by
  refine ⟨fun s ev h hfree => ?_, fun s l g h hfull hkept => ?_, fun s ev n table r₁ h hroom => ?_,
    fun s l g => ⟨fun c hg => countEvent_hostCorrected c s hg, fun c hg => countEvent_patrolCorrected c s hg, rfl⟩⟩
  · obtain ⟨n, hn⟩ : ∃ n, lowestSlot s.table = some n := by
      refine Option.ne_none_iff_exists'.1 fun hnone => ?_
      obtain ⟨m, hm⟩ := hfree
      obtain ⟨r, hr, hrm⟩ := lowestSlot_none.1 hnone m
      exact hm r hr hrm
    obtain ⟨r', hr', hscores, hkeys⟩ := eventInFreeSlot h hn
    obtain ⟨hslot, hkey, horigin, hcorrections, hhome, hoverflow, hpinned, hblocked, hpersisted, hwanted⟩ :=
      ev.made_fields s.params n
    have hkept {α : Type} (f : Record → α) (hf : ∀ r, f (.scores r) = f r) : f r' = f (ev.made s.params n) :=
      scores_congr hscores f hf
    obtain ⟨hfree, hlow⟩ := lowestSlot_some.1 hn
    have hs : r'.slot = n := (hkept Record.slot fun _ => rfl).trans hslot
    refine ⟨r', hr', (hkept Record.key fun _ => rfl).trans hkey, (hkept Record.origin fun _ => rfl).trans horigin,
      (hkept Record.corrections fun _ => rfl).trans hcorrections, (hkept Record.homeSpare fun _ => rfl).trans hhome,
      (hkept Record.overflow fun _ => rfl).trans hoverflow, (hkept Record.pinned fun _ => rfl).trans hpinned,
      (hkept Record.blocked fun _ => rfl).trans hblocked, (hkept Record.persisted fun _ => rfl).trans hpersisted,
      (hkept Record.persistWanted fun _ => rfl).trans hwanted, hs ▸ hfree, hs ▸ hlow, fun c hc => ?_, fun hu => ?_, hkeys⟩
    · obtain ⟨l, g, kind⟩ := ev
      obtain rfl : kind = .correction c := hc
      rw [hkept Record.signature fun _ => rfl, hkept Record.weight fun _ => rfl, hkept Record.poison fun _ => rfl,
        made_correction]
      exact ⟨rfl, rfl, rfl⟩
    · obtain ⟨l, g, kind⟩ := ev
      obtain rfl : kind = .uncorrectable := hu
      rw [hkept Record.signature fun _ => rfl, hkept Record.weight fun _ => rfl, hkept Record.poison fun _ => rfl,
        made_uncorrectable]
      exact ⟨rfl, rfl, rfl⟩
  · have hnone : makeRoom s.table = none := by
      rw [makeRoom_full hfull, victim_none.2 fun r hr => r.not_evictable_iff.2 (hkept r hr)]
      rfl
    refine ⟨fun c hg => ?_, fun c hg => ?_, ?_⟩
    · rw [receiveEvent_untracked _ _ h hnone, countEvent_hostCorrected c s hg]
      rfl
    · rw [receiveEvent_untracked _ _ h hnone, countEvent_patrolCorrected c s hg]
      rfl
    · rw [receiveEvent_untracked _ _ h hnone]
      rfl
  · have hmade : makeRoom s.table = some (n, table) := by
      rcases hroom with ⟨hfree, hlow, rfl⟩ | ⟨v, hfull, hv, rfl, rfl⟩
      · exact makeRoom_free_slot (lowestSlot_some.2 ⟨hfree, hlow⟩)
      · rw [makeRoom_full hfull, hv]
        rfl
    refine ⟨fun c hc hr₁ => ?_, fun hu hr₁ => ?_⟩
    · obtain ⟨l, g, kind⟩ := ev
      obtain rfl : kind = .correction c := hc
      rw [receiveEvent_made h hmade, made_correction]
      rw [hr₁]
      rfl
    · obtain ⟨l, g, kind⟩ := ev
      obtain rfl : kind = .uncorrectable := hu
      rw [receiveEvent_made h hmade, made_uncorrectable]
      rw [hr₁]
      rfl

end Sys2Proof.Machine
end

section
/-! PROOFS. The load's slots (O42). -/

namespace Sys2Proof.Machine

/-- The next VALID slot, past the EMPTY and BURNED ones (R169). -/
theorem nextValid_some {s : State} {n : Fin 64} {item : StoreItem} (hn : s.loadNext ≤ n.val) (hv : s.store[n] = .valid item)
    (hlow : ∀ m : Fin 64, s.loadNext ≤ m.val → m < n → s.store[m] = .empty ∨ s.store[m] = .burned) :
    nextValid s = some (n, item) := by
  rw [nextValid, List.findSome?_eq_some_iff]
  refine ⟨(List.finRange 64).take n.val, n, (List.finRange 64).drop (n.val + 1), ?_, by simp [hn, hv, StoreSlot.item?], ?_⟩
  · have hdrop := List.drop_eq_getElem_cons (l := List.finRange 64) (i := n.val) (by simp)
    rw [List.getElem_finRange] at hdrop
    exact (List.take_append_drop n.val _).symm.trans (congrArg _ hdrop)
  · intro m hm
    obtain ⟨j, hj, hjm⟩ := List.mem_take_iff_getElem.1 hm
    have hval : m.val = j := by rw [← hjm, List.getElem_finRange]; rfl
    split
    · next hle =>
      rcases hlow m hle (Fin.lt_def.2 (hval ▸ (lt_min_iff.1 hj).1)) with he | he <;> rw [he] <;> rfl
    · rfl

/-! ### The pool as a slot leaves it (R145, R148) -/

theorem warnLow_attn (p : BankPos) (s : State) : (warnLow p s).attn =
    if freeCount s.spares p ≤ 2 then { s.attn with flags := s.attn.flags ||| BitVec.twoPow 10 4 } else s.attn := by
  unfold warnLow
  split <;> rfl

theorem warnLow_eq (p : BankPos) (s : State) : warnLow p s = { s with attn := (warnLow p s).attn } := by
  unfold warnLow
  split <;> rfl

theorem allocate_attn (p : BankPos) (i : SpareIdx) (s : State) : (allocate p i s).attn =
    if freeCount (allocate p i s).spares p ≤ 2 then { s.attn with flags := s.attn.flags ||| BitVec.twoPow 10 4 }
      else s.attn := by
  rw [allocate, warnLow_attn, warnLow_spares]
  simp

theorem allocate_eq (p : BankPos) (i : SpareIdx) (s : State) :
    allocate p i s = { s with spares := (allocate p i s).spares, attn := (allocate p i s).attn } := by
  rw [allocate, warnLow_eq]
  simp

/-! ### A REPAIR slot (R169) -/

theorem isHome_iff {s : State} {p : BankPos} {i : SpareIdx} {f : Record → Bool} :
    isHome s p i f = true ↔ ∃ r ∈ s.table, keyPos r.key = p ∧ r.homeSpare = some i ∧ f r = true := by
  simp [isHome, and_assoc]

section
variable {s : State} {k : RowKey} {i : SpareIdx}

theorem installRepair_ignored (h : spareState s.spares (keyPos k) i = .burned ∨
      (∃ r ∈ s.table, r.key ≠ k ∧ keyPos r.key = keyPos k ∧ r.homeSpare = some i) ∨
      ∃ r : Record, lookup s k = some r ∧ r.homeSpare = some i) : installRepair k i s = s := by
  unfold installRepair
  dsimp only
  rcases h with h | ⟨r, hr, hk, hp, hi⟩ | ⟨r, hr, hi⟩
  · rw [if_pos h]
  · rw [if_pos (isHome_iff.2 ⟨r, hr, hp, hi, by simpa using hk⟩), ite_self]
  · rw [hr]
    dsimp only
    rw [if_pos hi, ite_self, ite_self]

theorem installRepair_free (hfree : spareState s.spares (keyPos k) i = .free)
    (hhome : ∀ r ∈ s.table, keyPos r.key = keyPos k → r.homeSpare ≠ some i) :
    (∀ (r : Record) (h : SpareIdx), lookup s k = some r → r.homeSpare = some h →
      installRepair k i s = updateRecord k (fun r => { r with homeSpare := some i })
        (allocate (keyPos k) i (setSpare (keyPos k) h .burned s))) ∧
    (∀ (r : Record) (t : State), lookup s k = none → createRecord k .store (Record.loaded i) s = some (r, t) →
      installRepair k i s = allocate (keyPos k) i t) := by
  have hother : ¬ isHome s (keyPos k) i (fun r => r.key != k) = true := fun he => by
    obtain ⟨r, hr, hp, hi, -⟩ := isHome_iff.1 he
    exact hhome r hr hp hi
  unfold installRepair
  dsimp only
  rw [if_neg (by simp [hfree]), if_neg hother]
  refine ⟨fun r h hr hh => ?_, fun r t hk ht => ?_⟩
  · have hi := hhome r (lookup_mem hr) (congrArg keyPos (lookup_key hr))
    rw [hr]
    dsimp only
    rw [if_neg hi, hh]
  · rw [hk]
    dsimp only
    rw [ht]

end

/-! ### A BAD_SPARE slot (R170) -/

theorem installBadSpare_ignored {b : SpareName} {s : State} (h : (∃ r ∈ s.table, keyPos r.key = b.pos ∧
      r.homeSpare = some b.idx) ∨ spareState s.spares b.pos b.idx = .burned) : installBadSpare b s = s := by
  unfold installBadSpare
  rcases h with ⟨r, hr, hp, hi⟩ | h
  · rw [if_pos (isHome_iff.2 ⟨r, hr, hp, hi, rfl⟩)]
  · rw [h]
    exact ite_self s

theorem installBadSpare_free {b : SpareName} {s : State} (hhome : ∀ r ∈ s.table, keyPos r.key = b.pos →
      r.homeSpare ≠ some b.idx) (hfree : spareState s.spares b.pos b.idx = .free) :
    installBadSpare b s = warnLow b.pos (setSpare b.pos b.idx .burned s) := by
  have hother : ¬ isHome s b.pos b.idx (fun _ => true) = true := fun he => by
    obtain ⟨r, hr, hp, hi, -⟩ := isHome_iff.1 he
    exact hhome r hr hp hi
  unfold installBadSpare
  rw [if_neg hother, hfree]

/-! ### The slots, in their order -/

theorem loadRepairSlot_exec {s : State} {n : Fin 64} {k : RowKey} {i : SpareIdx} (hp : s.phase = .loading)
    (hv : nextValid s = some (n, .repair k i)) :
    exec .loadRepairSlot s = .next ((installRepair k i s).setLoadNext (n.val + 1)) := by
  simp only [exec, execLoadRepairSlot, hp, hv, if_true]

theorem loadBadSpareSlot_exec {s : State} {n : Fin 64} {b : SpareName} (hp : s.phase = .loading)
    (hv : nextValid s = some (n, .badSpare b)) :
    exec .loadBadSpareSlot s = .next ((installBadSpare b s).setLoadNext (n.val + 1)) := by
  simp only [exec, execLoadBadSpareSlot, hp, hv, if_true]

/-- The pool but for one spare. -/
theorem spareState_allocate_ne {p q : BankPos} {i j : SpareIdx} (s : State) (h : (q, j) ≠ (p, i)) :
    spareState (allocate p i s).spares q j = spareState s.spares q j := by
  rw [allocate_spares]
  exact if_neg fun he => h (Prod.ext he.1 he.2)

theorem spareState_setSpare_ne {p q : BankPos} {i j : SpareIdx} {st : SpareState} (s : State) (h : (q, j) ≠ (p, i)) :
    spareState (setSpare p i st s).spares q j = spareState s.spares q j := by
  rw [spareState_setSpare]
  exact if_neg fun he => h (Prod.ext he.1 he.2)

theorem spareState_allocate_self (p : BankPos) (i : SpareIdx) (s : State) :
    spareState (allocate p i s).spares p i = .assigned := by
  rw [allocate_spares]
  exact if_pos ⟨rfl, rfl⟩

theorem spareState_setSpare_self (p : BankPos) (i : SpareIdx) (st : SpareState) (s : State) :
    spareState (setSpare p i st s).spares p i = st := by
  rw [spareState_setSpare]
  exact if_pos ⟨rfl, rfl⟩

/-- Settles O42: the next VALID slot is the one named, and what it holds is ignored or installed. -/
theorem loadProcessesSlots : Obligations.LoadProcessesSlots := by
  refine ⟨fun s n k i hp hn hv hlow => ?_, fun s n b hp hn hv hlow => ?_⟩
  · have hexec := loadRepairSlot_exec hp (nextValid_some hn hv hlow)
    refine ⟨fun hignored => ?_, fun hfree hhome => ⟨fun r h hr hh => ?_, fun slot hk hslot hlowest => ?_⟩⟩
    · rw [hexec, installRepair_ignored hignored]
      rfl
    · have hne : (keyPos k, h) ≠ (keyPos k, i) := fun he => by
        cases he
        exact hhome r (lookup_mem hr) (congrArg keyPos (lookup_key hr)) hh
      rw [(installRepair_free hfree hhome).1 r h hr hh] at hexec
      refine ⟨_, hexec, rfl, ?_, spareState_allocate_self _ _ _, fun p j hburned hassigned => ?_, allocate_attn _ _ _, ?_, ?_⟩
      · exact (spareState_allocate_ne _ hne).trans (spareState_setSpare_self _ _ _ _)
      · exact (spareState_allocate_ne _ hassigned).trans (spareState_setSpare_ne _ hburned)
      · simp [updateRecord]
      · rw [allocate_eq]
        rfl
    · have hcreate := createRecord_some (key := k) (origin := .store) (change := Record.loaded i)
        (makeRoom_free_slot (lowestSlot_some.2 ⟨hslot, hlowest⟩))
      rw [(installRepair_free hfree hhome).2 _ _ hk hcreate] at hexec
      refine ⟨_, hexec, rfl, spareState_allocate_self _ _ _, fun p j hassigned => spareState_allocate_ne _ hassigned,
        allocate_attn _ _ _, ?_, ?_⟩
      · rw [allocate_eq]
        rfl
      · simp
        rfl
  · have hexec := loadBadSpareSlot_exec hp (nextValid_some hn hv hlow)
    refine ⟨fun hignored => ?_, fun hhome hfree => ?_⟩
    · rw [hexec, installBadSpare_ignored hignored]
      rfl
    · rw [installBadSpare_free hhome hfree] at hexec
      have hattn : (warnLow b.pos (setSpare b.pos b.idx .burned s)).attn =
          if freeCount (warnLow b.pos (setSpare b.pos b.idx .burned s)).spares b.pos ≤ 2
          then { s.attn with flags := s.attn.flags ||| BitVec.twoPow 10 4 } else s.attn := by
        rw [warnLow_attn, warnLow_spares]
        simp
      refine ⟨_, hexec, rfl, ?_, ?_, fun hlow => ?_, fun p j hne => ?_, hattn⟩
      · rw [State.setLoadNext_spares, warnLow_spares]
        exact spareState_setSpare_self _ _ _ _
      · rw [warnLow_eq]
        rfl
      · rw [State.setLoadNext_spares] at hlow
        rw [State.setLoadNext_attn, hattn, if_pos hlow]
        simp [Attention.isSet, AttnFlag.bit]
      · rw [State.setLoadNext_spares, warnLow_spares]
        exact spareState_setSpare_ne _ hne

end Sys2Proof.Machine
end

section
/-! PROOFS. Commands taken up at once by the management port, and the queries (O48). -/

namespace Sys2Proof.Machine

/-! ### A command that is answered at once (R179 to R181) -/

/-- The port with FFh shifted out for a command with `n` argument bytes, before the command's answer. -/
def portOpen (s : State) (n : Nat) : Port := ⟨s.port.held, none, s.port.restart, List.replicate (8 * (n + 1)) true⟩

/-- A complete transaction whose command passes every check is the command's take-up, and its answer the held response. -/
theorem commandTransaction_answered {code : Byte} {args : List Byte} {n : Nat} {parse : List Byte → Option PortCommand}
    {c : PortCommand} {s t : State} {status : Status} {data : List Byte} (hawaiting : s.port.awaiting = none)
    (hphase : s.phase = .running ∨ code = statusCode) (hcode : commandTable code = some (n, parse)) (hn : args.length = n)
    (hparse : parse args = some c) (htake : takeUp c (s.setPort (portOpen s n)) = (t.setPort (portOpen s n), status, data)) :
    commandTransaction code args 0 true s = t.setPort (answeredPort s n status data c.isStatus) := by
  have hopen : discardAwaited (shiftOut (commandOut args.length 0) s) = s.setPort (portOpen s n) := by
    simp [discardAwaited, shiftOut, portOpen, commandOut, hawaiting, hn]
  have hfree : busyFor code (s.setPort (portOpen s n)) = false := by
    rcases hphase with h | h <;> simp [busyFor, portOpen, h]
  unfold commandTransaction checkAndDispatch
  dsimp only
  rw [if_pos rfl, hcode, hopen]
  dsimp only
  rw [if_neg (not_not.2 hn), hfree, if_neg Bool.false_ne_true, hparse]
  dsimp only
  rw [if_pos rfl, takeUpNow, htake]
  rfl

section
variable {s t : State} {k : RowKey} {status : Status} {data : List Byte} {code : Byte}

/-- The same of a command on a row key in the RUNNING part. -/
theorem keyCommand_answered {c : RowKey → PortCommand} (hready : PortReady s)
    (hcode : commandTable code = some (4, fun a => (keyArg a).map c)) (hc : (c k).isStatus = false)
    (htake : takeUp (c k) (s.setPort (portOpen s 4)) = (t.setPort (portOpen s 4), status, data)) :
    commandTransaction code (keyBytes k) 0 true s = t.setPort (answeredPort s 4 status data false) := by
  rw [← hc]
  exact commandTransaction_answered hready.2 (.inl hready.1) hcode (keyBytes_length k) (by rw [keyArg_keyBytes]; rfl) htake

/-- A command on the record of a key, which has one. -/
theorem onRecord_some {f : Record → State → State × Answer} {r : Record} {p : Port} (hr : lookup s k = some r) :
    onRecord k f (s.setPort p) = f r (s.setPort p) := by
  have hr : lookup (s.setPort p) k = some r := hr
  rw [onRecord, hr]

theorem onRecord_none {f : Record → State → State × Answer} {p : Port} (hk : lookup s k = none) :
    onRecord k f (s.setPort p) = (s.setPort p, .notFound, []) := by
  have hk : lookup (s.setPort p) k = none := hk
  rw [onRecord, hk]

end

/-! ### The next occupied slot (R76) -/

theorem nextOccupied_some {s : State} {n m : Fin 256} (hnm : n < m) (hm : ∃ r ∈ s.table, r.slot = m)
    (hlow : ∀ i : Fin 256, n < i → i < m → ∀ r ∈ s.table, r.slot ≠ i) : nextOccupied s n = some m := by
  rw [nextOccupied, List.find?_eq_some_iff_getElem]
  simp only [List.getElem_finRange, List.length_finRange, Bool.and_eq_true, decide_eq_true_eq, List.any_eq_true, beq_iff_eq]
  refine ⟨⟨hnm, hm⟩, m.val, m.isLt, rfl, fun j hj => ?_⟩
  simp only [Bool.not_eq_true', Bool.and_eq_false_iff, decide_eq_false_iff_not, List.any_eq_false, beq_iff_eq]
  exact or_iff_not_imp_left.2 fun hn => hlow ⟨j, hj.trans m.isLt⟩ (not_not.1 hn) hj

theorem nextOccupied_none {s : State} {n : Fin 256} (h : ∀ r ∈ s.table, ¬ n < r.slot) : nextOccupied s n = none := by
  rw [nextOccupied, List.find?_eq_none]
  intro m _ hm
  simp only [Bool.and_eq_true, decide_eq_true_eq, List.any_eq_true, beq_iff_eq] at hm
  obtain ⟨hnm, r, hr, rfl⟩ := hm
  exact h r hr hnm

theorem nextBytes_of_next {s : State} {n : Fin 256} {next : List Byte}
    (h : (∃ m : Fin 256, n < m ∧ (∃ r ∈ s.table, r.slot = m) ∧ (∀ i : Fin 256, n < i → i < m → ∀ r ∈ s.table, r.slot ≠ i) ∧
        next = [1, BitVec.ofNat 8 m.val]) ∨ ((∀ r ∈ s.table, ¬ n < r.slot) ∧ next = [0, 0xFF])) :
    nextBytes (nextOccupied s n) = next := by
  rcases h with ⟨m, hnm, hm, hlow, rfl⟩ | ⟨hnone, rfl⟩
  · rw [nextOccupied_some hnm hm hlow]
    rfl
  · rw [nextOccupied_none hnone]
    rfl

theorem readRecord_occupied {s : State} {n : Fin 256} {before after : List Record} {r : Record} {p : Port}
    (ht : s.table = before ++ r :: after) (hr : r.slot = n) (hbefore : ∀ r' ∈ before, r'.slot ≠ n) :
    readRecord n (s.setPort p) = (s.setPort p, .ok, nextBytes (nextOccupied s n) ++ recordReport r) := by
  have hfind : s.table.find? (fun r => r.slot == n) = some r := by
    rw [ht, List.find?_append, List.find?_eq_none.2 fun x hx => by simpa using hbefore x hx, Option.none_or,
      List.find?_cons_of_pos (by simpa using hr)]
  rw [readRecord, State.setPort_table, hfind]
  rfl

theorem readRecord_free {s : State} {n : Fin 256} {p : Port} (h : ∀ r ∈ s.table, r.slot ≠ n) :
    readRecord n (s.setPort p) = (s.setPort p, .notFound, nextBytes (nextOccupied s n)) := by
  have hfind : s.table.find? (fun r => r.slot == n) = none := List.find?_eq_none.2 fun x hx => by simpa using h x hx
  rw [readRecord, State.setPort_table, hfind]
  rfl

theorem getParamArg_code (id : ParamId) : getParamArg [id.code] = some id := by cases id <;> rfl

theorem storeSlotArg_ofNat (n : Fin 64) : storeSlotArg [BitVec.ofNat 8 n.val] = some n := by revert n; decide

theorem tableSlotArg_ofNat (n : Fin 256) : tableSlotArg [BitVec.ofNat 8 n.val] = some n := by
  simp [tableSlotArg]

theorem posArg_ofNat (rank : Rank) (bank : Bank) :
    posArg [BitVec.ofNat 8 rank.val, BitVec.ofNat 8 bank.val] = some (bankPos rank bank) := by
  rw [posArg, rankArg_ofNat, bankArg_ofNat]

/-- Settles O48: each query is taken up at once, and its take-up only reads. -/
theorem queriesAnswerReports : Obligations.QueriesAnswerReports := by
  refine ⟨fun s hawaiting => ?_, fun s hready => ?_⟩
  · exact congrArg Host.Outcome.next (commandTransaction_answered (c := .status) (t := s) hawaiting (.inr rfl) rfl rfl rfl rfl)
  · have hquery {c : PortCommand} {code : Byte} {args : List Byte} {n : Nat} {parse : List Byte → Option PortCommand}
        {status : Status} {data : List Byte} (hcode : commandTable code = some (n, parse)) (hn : args.length = n)
        (hparse : parse args = some c)
        (htake : takeUp c (s.setPort (portOpen s n)) = (s.setPort (portOpen s n), status, data)) :
        commandTransaction code args 0 true s = s.setPort (answeredPort s n status data c.isStatus) :=
      commandTransaction_answered hready.2 (.inl hready.1) hcode hn hparse htake
    refine ⟨fun k r hr => ?_, fun k hk => ?_, fun n next hnext => ⟨fun before after r ht hr hbefore => ?_, fun hfree => ?_⟩,
      fun rank bank => ?_, fun n => ?_, fun id => ?_, ?_⟩
    · exact congrArg Host.Outcome.next (keyCommand_answered (c := .findRecord) hready rfl rfl
        (onRecord_some (f := fun r s => (s, .ok, recordReport r)) hr))
    · exact congrArg Host.Outcome.next (keyCommand_answered (c := .findRecord) hready rfl rfl
        (onRecord_none (f := fun r s => (s, .ok, recordReport r)) hk))
    · refine congrArg Host.Outcome.next (hquery (c := .readRecord n) rfl rfl (by rw [tableSlotArg_ofNat]; rfl) ?_)
      rw [takeUp, readRecord_occupied ht hr hbefore, nextBytes_of_next hnext]
    · refine congrArg Host.Outcome.next (hquery (c := .readRecord n) rfl rfl (by rw [tableSlotArg_ofNat]; rfl) ?_)
      rw [takeUp, readRecord_free hfree, nextBytes_of_next hnext]
    · exact congrArg Host.Outcome.next (hquery (c := .spareMap _) rfl rfl (by rw [posArg_ofNat]; rfl) rfl)
    · exact congrArg Host.Outcome.next (hquery (c := .readStore _) rfl rfl (by rw [storeSlotArg_ofNat]; rfl) rfl)
    · exact congrArg Host.Outcome.next (hquery (c := .getParam _) rfl rfl (by rw [getParamArg_code]; rfl) rfl)
    · exact congrArg Host.Outcome.next (hquery (c := .readCounters) rfl rfl rfl rfl)

end Sys2Proof.Machine
end

section
/-! PROOFS. The commands that change records (O50, O51). -/

namespace Sys2Proof.Machine

/-! ### Room for the record that a command makes (R64, R65) -/

theorem makeRoom_of_free {t : List Record} {n : Fin 256} (hfree : ∀ r ∈ t, r.slot ≠ n)
    (hlow : ∀ m : Fin 256, m < n → ∃ r ∈ t, r.slot = m) : makeRoom t = some (n, t) :=
  makeRoom_free_slot (lowestSlot_some.2 ⟨hfree, hlow⟩)

theorem makeRoom_none {t : List Record} (hfull : ∀ n : Fin 256, ∃ r ∈ t, r.slot = n)
    (hkept : ∀ r ∈ t, r.evictable = false) : makeRoom t = none := by
  rw [makeRoom_full hfull, victim_none.2 hkept]
  rfl

theorem makeRoom_evicts {s : State} {before after : List Record} {v : Record} (h : Evicts s before v after) :
    makeRoom s.table = some (v.slot, before ++ after) := by
  obtain ⟨ht, hfull, hslots, hstate, hpinned, hpoison, hoverflow, hbefore, hafter⟩ := h
  have hv : victim s.table = some v :=
    victim_some.2 ⟨before, after, ht, v.evictable_iff.2 ⟨hstate, hpinned, hpoison, hoverflow⟩, hbefore, hafter⟩
  have hrest : s.table.filter (fun r => r.slot != v.slot) = before ++ after := by
    rw [ht, List.filter_append, List.filter_cons_of_neg (by simp), ← List.filter_append]
    exact List.filter_eq_self.2 fun r hr => by simpa using hslots r hr
  rw [makeRoom_full hfull, hv, Option.map_some, hrest]

section
variable {s : State} {k : RowKey} {p : Port}

/-- PIN, UNPIN, RELEASE, ABORT_MIGRATION and PERSIST on a key without a record (R70, R164, R177). -/
theorem keyCommand_unknown (hk : lookup s k = none) :
    pinRecord k (s.setPort p) = (s.setPort p, .notFound, []) ∧ unpinRecord k (s.setPort p) = (s.setPort p, .notFound, []) ∧
    releaseRow k (s.setPort p) = (s.setPort p, .notFound, []) ∧ abortRow k (s.setPort p) = (s.setPort p, .notFound, []) ∧
    persistRow k (s.setPort p) = (s.setPort p, .notFound, []) :=
  ⟨onRecord_none hk, onRecord_none hk, onRecord_none hk, onRecord_none hk, onRecord_none hk⟩

/-! ### WATCH_ROW, PIN, UNPIN and RELEASE (R67, R72, R78, R79) -/

theorem watchRow_made (hk : lookup s k = none) {n : Fin 256} {t : List Record} (hroom : makeRoom s.table = some (n, t)) :
    watchRow k (s.setPort p) =
      ((s.setTable (t ++ [{ Record.fresh n k .command with pinned := true }])).setPort p, .ok, [BitVec.ofNat 8 n.val]) := by
  have hk : lookup (s.setPort p) k = none := hk
  rw [watchRow, hk, createRecord_some (s := s.setPort p) hroom]
  rfl

theorem watchRow_full (hk : lookup s k = none) (hroom : makeRoom s.table = none) :
    watchRow k (s.setPort p) = (s.setPort p, .tableFull, []) := by
  have hk : lookup (s.setPort p) k = none := hk
  rw [watchRow, hk, createRecord_none (s := s.setPort p) hroom]

theorem watchRow_known {r : Record} (hr : lookup s k = some r) : watchRow k (s.setPort p) =
    ((updateRecord k (fun r => { r with pinned := true }) s).setPort p, .ok, [BitVec.ofNat 8 r.slot.val]) := by
  have hr : lookup (s.setPort p) k = some r := hr
  rw [watchRow, hr]
  rfl

theorem pinRecord_known {r : Record} (hr : lookup s k = some r) : pinRecord k (s.setPort p) =
    ((updateRecord k (fun r => { r with pinned := true }) s).setPort p, .ok, []) := by
  rw [pinRecord, onRecord_some hr]
  rfl

theorem unpinRecord_known {r : Record} (hr : lookup s k = some r) : unpinRecord k (s.setPort p) =
    ((updateRecord k (fun r => { r with pinned := false }) s).setPort p, .ok, []) := by
  rw [unpinRecord, onRecord_some hr]
  rfl

theorem releaseRow_released {r : Record} (hr : lookup s k = some r) (hok : r.releasable = true) :
    releaseRow k (s.setPort p) = ((releaseRecord k s).setPort p, .ok, []) := by
  rw [releaseRow, onRecord_some hr, if_pos hok]
  rfl

theorem releaseRow_wrongState {r : Record} (hr : lookup s k = some r) (hno : r.releasable = false) :
    releaseRow k (s.setPort p) = (s.setPort p, .wrongState, []) := by
  rw [releaseRow, onRecord_some hr, if_neg (by simp [hno])]

end

/-- Settles O50: each command's take-up, answered at once. -/
theorem recordCommandsTakeEffect : Obligations.RecordCommandsTakeEffect := by
  intro s k hready
  have hanswer {c : RowKey → PortCommand} {code : Byte} {t : State} {status : Status} {data : List Byte}
      (hcode : commandTable code = some (4, fun a => (keyArg a).map c)) (hc : (c k).isStatus = false)
      (htake : takeUp (c k) (s.setPort (portOpen s 4)) = (t.setPort (portOpen s 4), status, data)) :=
    congrArg (Host.Outcome.next (φ := Fault) (ρ := Refusal)) (keyCommand_answered hready hcode hc htake)
  refine ⟨fun r hr => ⟨?_, ?_, ?_, fun hhome hstate => ?_, fun hkept => ?_⟩,
    fun hk => ?_⟩
  · exact hanswer (c := .watchRow) rfl rfl (watchRow_known hr)
  · exact hanswer (c := .pin) rfl rfl (pinRecord_known hr)
  · exact hanswer (c := .unpin) rfl rfl (unpinRecord_known hr)
  · exact hanswer (c := .release) rfl rfl (releaseRow_released hr (r.releasable_iff.2 ⟨hhome, by
      rcases hstate with h | h | h | h <;> simp [h]⟩))
  · exact hanswer (c := .release) rfl rfl (releaseRow_wrongState hr (by
      rw [← Bool.not_eq_true, r.releasable_iff]
      rintro ⟨hnone, hm, hs⟩
      rcases hkept with h | h | h
      · simp [hnone] at h
      · exact hs h
      · exact hm h))
  · obtain ⟨hpin, hunpin, hrelease, -, -⟩ := keyCommand_unknown (p := portOpen s 4) hk
    refine ⟨hanswer (c := .pin) rfl rfl hpin, hanswer (c := .unpin) rfl rfl hunpin, hanswer (c := .release) rfl rfl hrelease,
      fun n hfree hlow => ?_, fun hfull hkept => ?_, fun before after v hv => ?_⟩
    · exact hanswer (c := .watchRow) rfl rfl (watchRow_made hk (makeRoom_of_free hfree hlow))
    · exact hanswer (c := .watchRow) rfl rfl (watchRow_full hk (makeRoom_none hfull hkept))
    · exact hanswer (c := .watchRow) rfl rfl (watchRow_made hk (makeRoom_evicts hv))

/-! ### FORCE_SPARE (R68, R163) -/

section
variable {s : State} {k : RowKey} {p : Port} {r : Record}

theorem updateRecord_updateRecord (f g : Record → Record) (hf : ∀ r, (f r).key = r.key) (s : State) :
    updateRecord k g (updateRecord k f s) = updateRecord k (fun r => g (f r)) s := by
  simp only [updateRecord, State.setTable_table, State.setTable_setTable, List.map_map]
  congr 1
  refine List.map_congr_left fun r _ => ?_
  by_cases h : r.key = k <;> simp [h, hf]

/-- The record's joining of the queue, before the engine serves it (R95). -/
def joined (k : RowKey) (u : Bool) (s : State) : State :=
  (updateRecord k (Record.enqueued u) s).setQueue ((s.queue.remove k).join k u)

theorem enqueue_served (u : Bool) : enqueue k u s = serveQueue (joined k u s) := rfl

theorem enqueue_setPort (u : Bool) : enqueue k u (s.setPort p) = (enqueue k u s).setPort p :=
  serveQueue_setPort (joined k u s) p

theorem forceQueue_setPort : forceQueue k (s.setPort p) = (forceQueue k s).setPort p :=
  enqueue_setPort (s := updateRecord k (fun r => { r with blocked := false }) s) true

theorem forceQueue_eq (q : Port) : (forceQueue k s).setPort q = serveQueue { s with
    table := s.table.map fun r => if r.key = k then { r with state := .queued, urgent := true, blocked := false } else r
    queue := ⟨(s.queue.urgent.filter fun x => x != k) ++ [k], s.queue.normal.filter fun x => x != k⟩
    port := q } := by
  rw [forceQueue, enqueue_served, joined,
    updateRecord_updateRecord (fun r => { r with blocked := false }) (Record.enqueued true) fun _ => rfl, ← serveQueue_setPort]
  rfl

theorem enqueue_eq (q : Port) : (enqueue k true s).setPort q = serveQueue { s with
    table := s.table.map fun r => if r.key = k then { r with state := .queued, urgent := true } else r
    queue := ⟨(s.queue.urgent.filter fun x => x != k) ++ [k], s.queue.normal.filter fun x => x != k⟩
    port := q } :=
  (serveQueue_setPort (joined k true s) q).symm

theorem forceSpareRow_forced (hr : lookup s k = some r) (h : r.state = .watch ∨ r.state = .suspect ∨ r.state = .spared ∨
      (r.state = .condemned ∧ freeCount s.spares (keyPos k) ≠ 0)) :
    forceSpareRow k (s.setPort p) = ((forceQueue k s).setPort p, .ok, []) := by
  have hr : lookup (s.setPort p) k = some r := hr
  rw [forceSpareRow, hr]
  dsimp only
  rcases h with h | h | h | ⟨h, hfree⟩ <;> rw [h] <;> dsimp only
  · rw [forceQueue_setPort]
  · rw [forceQueue_setPort]
  · rw [forceQueue_setPort]
  · rw [State.setPort_spares, if_neg hfree, forceQueue_setPort]

theorem forceSpareRow_queued (hr : lookup s k = some r) (h : r.state = .queued) :
    forceSpareRow k (s.setPort p) = ((enqueue k true s).setPort p, .ok, []) := by
  have hr : lookup (s.setPort p) k = some r := hr
  rw [forceSpareRow, hr]
  dsimp only
  rw [h]
  dsimp only
  rw [enqueue_setPort]

theorem forceSpareRow_wrongState (hr : lookup s k = some r)
    (h : r.state = .migrating ∨ (r.state = .condemned ∧ freeCount s.spares (keyPos k) = 0)) :
    forceSpareRow k (s.setPort p) = (s.setPort p, .wrongState, []) := by
  have hr : lookup (s.setPort p) k = some r := hr
  rw [forceSpareRow, hr]
  dsimp only
  rcases h with h | ⟨h, hfree⟩ <;> rw [h]
  dsimp only
  rw [State.setPort_spares, if_pos hfree]

/-- The record made joins the queue, urgent, as the youngest of the table. -/
theorem forceSpareRow_made (hk : lookup s k = none) {n : Fin 256} {t : List Record} (hroom : makeRoom s.table = some (n, t)) :
    forceSpareRow k (s.setPort p) = ((serveQueue ((s.setTable (t ++ [(Record.fresh n k .command).enqueued true])).setQueue
      ((s.queue.remove k).join k true))).setPort p, .ok, []) := by
  have hnone : lookup (s.setPort p) k = none := hk
  have hyoung : updateRecord k (Record.enqueued true) (s.setTable (t ++ [.fresh n k .command])) =
      s.setTable (t ++ [(Record.fresh n k .command).enqueued true]) :=
    updateRecord_youngest (r := .fresh n k .command) (Record.enqueued true) s fun x hx =>
      lookup_eq_none.1 hk x (makeRoom_subset hroom x hx)
  have hserved : enqueue k true ((s.setTable (t ++ [.fresh n k .command])).setPort p) =
      (serveQueue ((s.setTable (t ++ [(Record.fresh n k .command).enqueued true])).setQueue
        ((s.queue.remove k).join k true))).setPort p := by
    rw [enqueue_setPort, enqueue_served, joined, hyoung]
    rfl
  rw [← hserved, forceSpareRow, hnone, createRecord_some (s := s.setPort p) hroom]
  rfl

theorem forceSpareRow_full (hk : lookup s k = none) (hroom : makeRoom s.table = none) :
    forceSpareRow k (s.setPort p) = (s.setPort p, .tableFull, []) := by
  have hk : lookup (s.setPort p) k = none := hk
  rw [forceSpareRow, hk, createRecord_none (s := s.setPort p) hroom]

/-! ### ABORT_MIGRATION (R164) -/

theorem abortRow_queued (hr : lookup s k = some r) (h : r.state = .queued) : abortRow k (s.setPort p) =
    ((updateRecord k Record.abort (s.setQueue (s.queue.remove k))).setPort p, .ok, []) := by
  rw [abortRow, onRecord_some hr, h]
  rfl

theorem abortRow_wrongState (hr : lookup s k = some r) (hq : r.state ≠ .queued) (hm : r.state ≠ .migrating) :
    abortRow k (s.setPort p) = (s.setPort p, .wrongState, []) := by
  rw [abortRow, onRecord_some hr]
  cases h : r.state <;> simp_all

/-- The step in flight when its attempt is stopped (R160). -/
theorem orphanStep_none (h : s.engine.step = none) : orphanStep s = s := by
  unfold orphanStep
  rw [h]

theorem orphanStep_waiting {st : MigStep} {found : LineContent} (h : s.engine.step = some st)
    (hw : st.stage = .awaitHost found) : orphanStep s = freeSlot (s.setEngine { s.engine with step := none }) := by
  unfold orphanStep
  rw [h]
  dsimp only
  rw [hw]

theorem orphanStep_goes_on {st : MigStep} (h : s.engine.step = some st)
    (hw : ∀ found : LineContent, st.stage ≠ .awaitHost found) :
    orphanStep s = s.setEngine { s.engine with step := some { st with leftover := true } } := by
  unfold orphanStep
  rw [h]
  dsimp only
  split
  · next found hf => exact absurd hf (hw found)
  · rfl

theorem orphanStep_setPort : orphanStep (s.setPort p) = (orphanStep s).setPort p := by
  unfold orphanStep
  rw [State.setPort_engine]
  (repeat' split) <;> rfl

/-- The state before the queue is served: the destination FREE, the marked columns dropped and the step orphaned. -/
def stopped (r : Record) (d : SpareIdx) (s : State) : State :=
  let s := setSpare (keyPos r.key) d .free s
  orphanStep (s.setEngine { s.engine with marked := [] })

theorem abortMigrating_stopped {d : SpareIdx} (hd : r.destSpare = some d) :
    abortMigrating r s = serveQueue (updateRecord r.key Record.abort (stopped r d s)) := by
  rw [abortMigrating, hd]
  rfl

theorem stopped_setPort {d : SpareIdx} : stopped r d (s.setPort p) = (stopped r d s).setPort p :=
  orphanStep_setPort (s := (setSpare (keyPos r.key) d .free s).setEngine { s.engine with marked := [] })

theorem stopped_eq (r : Record) (d : SpareIdx) (s : State) : stopped r d s =
    { s with spares := (stopped r d s).spares, engine := (stopped r d s).engine, slot := (stopped r d s).slot } := by
  unfold stopped orphanStep
  dsimp only
  (repeat' split) <;> rfl

/-- What stopping an attempt makes of the pool, the engine and the slot. -/
theorem stopped_spec (r : Record) (d : SpareIdx) (s : State) :
    spareState (stopped r d s).spares (keyPos r.key) d = .free ∧
    (∀ (p : BankPos) (i : SpareIdx), (p, i) ≠ (keyPos r.key, d) →
      spareState (stopped r d s).spares p i = spareState s.spares p i) ∧
    (stopped r d s).engine.marked = [] ∧
    (s.engine.step = none → (stopped r d s).engine.step = none ∧ (stopped r d s).slot = s.slot) ∧
    (∀ (st : MigStep) (found : LineContent), s.engine.step = some st → st.stage = .awaitHost found →
      (stopped r d s).engine.step = none ∧ (stopped r d s).slot = none) ∧
    (∀ st : MigStep, s.engine.step = some st → (∀ found : LineContent, st.stage ≠ .awaitHost found) →
      (stopped r d s).engine.step = some { st with leftover := true } ∧ (stopped r d s).slot = s.slot) := by
  have hspares : (stopped r d s).spares = (setSpare (keyPos r.key) d .free s).spares := by simp [stopped]
  refine ⟨?_, fun p i hne => ?_, ?_, fun hnone => ?_, fun st found hst hw => ?_, fun st hst hw => ?_⟩
  · rw [hspares]
    exact spareState_setSpare_self _ _ _ _
  · rw [hspares]
    exact spareState_setSpare_ne _ hne
  · unfold stopped orphanStep
    dsimp only
    (repeat' split) <;> rfl
  · rw [stopped, orphanStep_none (by simpa using hnone)]
    exact ⟨by simpa using hnone, by simp⟩
  · rw [stopped, orphanStep_waiting (st := st) (by simpa using hst) hw]
    exact ⟨rfl, rfl⟩
  · rw [stopped, orphanStep_goes_on (st := st) (by simpa using hst) hw]
    exact ⟨rfl, by simp⟩

theorem abortRow_migrating {d : SpareIdx} (hr : lookup s k = some r) (h : r.state = .migrating) (hd : r.destSpare = some d) :
    abortRow k (s.setPort p) = ((serveQueue (updateRecord k Record.abort (stopped r d s))).setPort p, .ok, []) := by
  rw [abortRow, onRecord_some hr, h]
  dsimp only
  rw [abortMigrating_stopped hd, stopped_setPort, lookup_key hr, ← serveQueue_setPort]
  rfl

/-! ### PERSIST (R172, R174, R177) -/

theorem persistRow_persisted (hr : lookup s k = some r) (h : r.persisted = true) :
    persistRow k (s.setPort p) = (s.setPort p, .ok, []) := by
  rw [persistRow, onRecord_some hr, if_pos h]

theorem persistRow_wrongState (hr : lookup s k = some r) (h : r.persisted = false) (hs : r.state ≠ .spared) :
    persistRow k (s.setPort p) = (s.setPort p, .wrongState, []) := by
  rw [persistRow, onRecord_some hr, if_neg (by simp [h]), if_neg hs]

/-- Persist wanted is set on the record of the key. -/
def wanted (k : RowKey) (s : State) : State := updateRecord k (fun r => { r with persistWanted := true }) s

theorem persistRow_wanted (hr : lookup s k = some r) (h : r.persisted = false) (hs : r.state = .spared) :
    persistRow k (s.setPort p) = ((startPersist (wanted k s)).setPort p, .ok, []) := by
  rw [persistRow, onRecord_some hr, if_neg (by simp [h]), if_pos hs, ← startPersist_setPort]
  rfl

theorem startPersist_busy {g : Program} (h : s.persist.program = some g) : startPersist s = s := by
  rw [startPersist, if_neg]
  simp [h]

theorem startPersist_begins {item : StoreItem} {n : Fin 64} (hp : s.phase = .running) (hidle : s.persist.program = none)
    (hitem : chooseItem s = some item) (hn : LowestEmpty s.store n) :
    startPersist s = s.setPersist { s.persist with program := some ⟨n, item, 1⟩ } := by
  rw [startPersist, if_pos ⟨hp, hidle⟩, hitem]
  dsimp only
  rw [beginProgram, lowestEmpty_some hn]

theorem startPersist_full {item : StoreItem} (hp : s.phase = .running) (hidle : s.persist.program = none)
    (hitem : chooseItem s = some item) (hfull : ∀ n : Fin 64, s.store[n] ≠ .empty) : startPersist s = storeFull s := by
  rw [startPersist, if_pos ⟨hp, hidle⟩, hitem]
  dsimp only
  rw [beginProgram, lowestEmpty_none hfull]

/-- A record whose wanted repair can be written is work. -/
theorem chooseItem_wanted {i : SpareIdx} (hr : lookup s k = some r) (hi : r.homeSpare = some i) :
    ∃ item, chooseItem (wanted k s) = some item := by
  refine Option.isSome_iff_exists.1 ?_
  unfold chooseItem
  split
  · rfl
  · rw [List.findSome?_isSome_iff]
    refine ⟨{ r with persistWanted := true }, List.mem_map.2 ⟨r, lookup_mem hr, if_pos (lookup_key hr)⟩, ?_⟩
    simp [repairItem, hi]

/-- With no other work, the wanted repair is the engine's choice. -/
theorem chooseItem_only_wanted {i : SpareIdx} (hr : lookup s k = some r) (hi : r.homeSpare = some i)
    (hlist : s.persist.badSpares = []) (hidle : ∀ x ∈ s.table, x.persistWanted = false) :
    chooseItem (wanted k s) = some (.repair k i) := by
  obtain ⟨-, older, younger, ht, holder⟩ := List.find?_eq_some_iff_append.1 hr
  have hkept : older.map (fun x => if x.key = k then { x with persistWanted := true } else x) = older := by
    rw [List.map_congr_left fun x hx => if_neg (by simpa using holder x hx), List.map_id']
  refine chooseItem_of_nextWork (.inr (.inl ⟨hlist, older, younger.map fun x => if x.key = k then
    { x with persistWanted := true } else x, { r with persistWanted := true }, i, ?_, fun x hx => ?_, rfl, hi, ?_⟩))
  · simp only [wanted, updateRecord, State.setTable_table, ht, List.map_append, hkept, List.map_cons, lookup_key hr, if_true]
  · exact hidle x (ht ▸ List.mem_append_left _ hx)
  · rw [lookup_key hr]

theorem storeFull_wanted : storeFull (wanted k s) = { s with
    table := s.table.map fun r => { r with persistWanted := false }
    persist := ⟨[], none⟩
    attn := { s.attn with flags := s.attn.flags ||| BitVec.twoPow 10 8 } } := by
  have hmap : (wanted k s).table.map (fun r => { r with persistWanted := false }) =
      s.table.map fun r => { r with persistWanted := false } := by
    simp only [wanted, updateRecord, State.setTable_table, List.map_map]
    refine List.map_congr_left fun r _ => ?_
    simp only [Function.comp_apply]
    split <;> rfl
  rw [storeFull, hmap]
  rfl

end

/-- Settles O51: each command's take-up, answered at once; the answer stands in the port while the queue is served. -/
theorem sparingCommandsTakeEffect : Obligations.SparingCommandsTakeEffect := by
  have hanswer {s : State} {k : RowKey} (hready : PortReady s) {c : RowKey → PortCommand} {code : Byte} {t : State}
      {status : Status} {data : List Byte} (hcode : commandTable code = some (4, fun a => (keyArg a).map c))
      (hc : (c k).isStatus = false)
      (htake : takeUp (c k) (s.setPort (portOpen s 4)) = (t.setPort (portOpen s 4), status, data)) :=
    congrArg (Host.Outcome.next (φ := Fault) (ρ := Refusal)) (keyCommand_answered hready hcode hc htake)
  refine ⟨fun s k r hready hr => ⟨fun h => ?_, fun h => ?_, fun h => ?_, fun h => ?_, fun d hm hd => ?_, fun hq hm => ?_,
    fun hp => ?_, fun hp hs => ?_, fun g hp hs hg => ?_, fun i n hp hs hi hidle hnone hn hlow => ?_,
    fun i item n hp hs hi hidle hn hwork => ?_, fun i hp hs hi hidle hfull => ?_⟩,
    fun s k hready hk => ?_⟩
  · exact (hanswer hready (c := .forceSpare) rfl rfl (forceSpareRow_forced hr h)).trans (congrArg _ (forceQueue_eq _))
  · exact (hanswer hready (c := .forceSpare) rfl rfl (forceSpareRow_queued hr h)).trans (congrArg _ (enqueue_eq _))
  · exact hanswer hready (c := .forceSpare) rfl rfl (forceSpareRow_wrongState hr h)
  · exact hanswer hready (c := .abortMigration) rfl rfl (abortRow_queued hr h)
  · obtain ⟨hfree, hothers, hmarked, hnone, hwaiting, hgoes⟩ := stopped_spec r d s
    rw [lookup_key hr] at hfree hothers
    refine ⟨_, _, _, (hanswer hready (c := .abortMigration) rfl rfl (abortRow_migrating hr hm hd)).trans ?_, hfree, hothers,
      hmarked, hnone, hwaiting, hgoes⟩
    rw [← serveQueue_setPort, stopped_eq]
    rfl
  · exact hanswer hready (c := .abortMigration) rfl rfl (abortRow_wrongState hr hq hm)
  · exact hanswer hready (c := .persist) rfl rfl (persistRow_persisted hr hp)
  · exact hanswer hready (c := .persist) rfl rfl (persistRow_wrongState hr hp hs)
  · refine (hanswer hready (c := .persist) rfl rfl (persistRow_wanted hr hp hs)).trans ?_
    rw [startPersist_busy (s := wanted k s) hg]
    rfl
  · refine (hanswer hready (c := .persist) rfl rfl (persistRow_wanted hr hp hs)).trans ?_
    rw [startPersist_begins (s := wanted k s) hready.1 (by rw [show (wanted k s).persist = s.persist from rfl, hidle])
      (chooseItem_only_wanted hr hi (by rw [hidle]) hnone) ⟨hn, hlow⟩, show (wanted k s).persist = s.persist from rfl, hidle]
    rfl
  · refine (hanswer hready (c := .persist) rfl rfl (persistRow_wanted hr hp hs)).trans ?_
    rw [startPersist_begins (s := wanted k s) hready.1 hidle (chooseItem_of_nextWork hwork) hn]
    rfl
  · obtain ⟨item, hitem⟩ := chooseItem_wanted hr hi
    refine (hanswer hready (c := .persist) rfl rfl (persistRow_wanted hr hp hs)).trans ?_
    rw [startPersist_full (s := wanted k s) hready.1 hidle hitem hfull, storeFull_wanted]
    rfl
  · obtain ⟨-, -, -, habort, hpersist⟩ := keyCommand_unknown (p := portOpen s 4) hk
    have hmade {n : Fin 256} {t : List Record} (hroom : makeRoom s.table = some (n, t)) :=
      (hanswer hready (c := .forceSpare) (code := 0x20) rfl rfl (forceSpareRow_made hk hroom)).trans
        (congrArg _ (serveQueue_setPort _ _).symm)
    refine ⟨hanswer hready (c := .abortMigration) rfl rfl habort, hanswer hready (c := .persist) rfl rfl hpersist,
      fun n hfree hlow => ?_, fun hfull hkept => ?_, fun before after v hv => ?_⟩
    · exact hmade (makeRoom_of_free hfree hlow)
    · exact hanswer hready (c := .forceSpare) rfl rfl (forceSpareRow_full hk (makeRoom_none hfull hkept))
    · exact hmade (makeRoom_evicts hv)

end Sys2Proof.Machine
end

section
/-! PROOFS. The bytes of the reports (O49). -/

namespace Sys2Proof.Machine

theorem bytesOf_two (v : Nat) : bytesOf 2 v = [BitVec.ofNat 8 (v / 256), BitVec.ofNat 8 v] := rfl

theorem keyBytes_eq (k : RowKey) : keyBytes k = [BitVec.ofNat 8 k.rank.val, BitVec.ofNat 8 k.bank.val,
    BitVec.ofNat 8 (k.row.val / 256), BitVec.ofNat 8 k.row.val] := rfl

/-! ### The status report (R183) -/

theorem engineBytes_length (r : Option Record) : (engineBytes r).length = 6 := by
  cases r <;> rfl

theorem statusReport_length (s : State) : (statusReport s).length = 24 := by
  simp [statusReport, bytesOf_two, engineBytes_length]

theorem engineBytes_eq {r : Option Record} {engine : List Byte}
    (h : r = none ∧ engine = [0, 0xFF, 0xFF, 0xFF, 0xFF, 0xFF] ∨ ∃ (x : Record) (g : MigSub), r = some x ∧ x.migration = some g ∧
      engine = 1 :: (keyBytes x.key ++ [g.phase.code])) : engineBytes r = engine := by
  rcases h with ⟨rfl, rfl⟩ | ⟨x, g, rfl, hg, rfl⟩
  · rfl
  · simp [engineBytes, hg]

/-! ### The record report (R77) -/

theorem signatureBytes_length (g : Option Signature) : (signatureBytes g).length = 4 := by cases g <;> rfl

theorem migrationBytes_length (m : Option MigSub) : (migrationBytes m).length = 4 := by cases m <;> rfl

theorem recordReport_length (r : Record) (h : r.poison.length ≤ 4) : (recordReport r).length = 28 := by
  simp [recordReport, bytesOf_two, keyBytes_length, signatureBytes_length, migrationBytes_length, poisonBytes, blanks]
  omega

theorem recordReport_split (r : Record) : recordReport r =
    [BitVec.ofNat 8 r.slot.val, BitVec.ofNat 8 r.key.rank.val, BitVec.ofNat 8 r.key.bank.val,
      BitVec.ofNat 8 (r.key.row.val / 256), BitVec.ofNat 8 r.key.row.val, r.state.code, r.origin.code] ++
    ([BitVec.ofNat 8 (r.weight / 256), BitVec.ofNat 8 r.weight, BitVec.ofNat 8 (r.corrections / 256),
      BitVec.ofNat 8 r.corrections, bitsByte [r.signature.isSome, r.homeSpare.isSome, r.destSpare.isSome, r.migration.isSome],
      bitsByte [r.urgent, r.overflow, r.pinned, r.blocked, r.persisted, r.persistWanted]] ++
    signatureBytes r.signature ++ [optSpareByte r.homeSpare, optSpareByte r.destSpare] ++ migrationBytes r.migration ++
    poisonBytes r.poison) := by
  simp [recordReport, bytesOf_two, keyBytes_eq, byteOf]

theorem bitsByte_four (a b c d : Bool) : bitsByte [a, b, c, d] = BitVec.ofNat 8 ((if a then 1 else 0) +
    (if b then 2 else 0) + (if c then 4 else 0) + (if d then 8 else 0)) := by
  revert a b c d
  decide

theorem bitsByte_six (a b c d e f : Bool) : bitsByte [a, b, c, d, e, f] = BitVec.ofNat 8 ((if a then 1 else 0) +
    (if b then 2 else 0) + (if c then 4 else 0) + (if d then 8 else 0) + (if e then 16 else 0) + (if f then 32 else 0)) := by
  revert a b c d e f
  decide

/-! ### The spare map (R165) -/

theorem spareEntry_length (s : State) (p : BankPos) (i : SpareIdx) : (spareEntry s p i).length = 6 := by
  unfold spareEntry
  dsimp only
  split
  · next k _ => simp [keyBytes_length]
  · rfl

theorem spareMapReport_length (s : State) (p : BankPos) : (spareMapReport s p).length = 193 := by
  simp [spareMapReport, List.length_flatMap, spareEntry_length]

/-- The part of equal blocks at its place. -/
theorem flatMap_block {α β : Type} {f : α → List β} {m : Nat} (hf : ∀ a, (f a).length = m) (l : List α) (n : Nat)
    (hn : n < l.length) : ((l.flatMap f).drop (m * n)).take m = f l[n] := by
  induction l generalizing n with
  | nil => simp at hn
  | cons a l ih =>
    cases n with
    | zero => simp [← hf a]
    | succ n =>
      rw [List.flatMap_cons, Nat.mul_succ, Nat.add_comm, ← hf a, List.drop_length_add_append, hf a]
      exact ih n (by simpa using hn)

theorem spareMapReport_entry (s : State) (p : BankPos) (i : SpareIdx) :
    ((spareMapReport s p).drop (1 + 6 * i.val)).take 6 = spareEntry s p i := by
  rw [spareMapReport, Nat.add_comm 1, List.drop_succ_cons,
    flatMap_block (spareEntry_length s p) (List.finRange 32) i.val (by simp), List.getElem_finRange]
  rfl

theorem spareEntry_unassigned {s : State} {p : BankPos} {i : SpareIdx} (h : spareState s.spares p i ≠ .assigned) :
    spareEntry s p i = [(spareState s.spares p i).code, 0xFF, 0xFF, 0xFF, 0xFF, 0xFF] := by
  unfold spareEntry
  dsimp only
  rw [if_neg h]
  rfl

theorem spareEntry_assigned {s : State} {p : BankPos} {i : SpareIdx} {role : Byte} {k : RowKey}
    (h : spareState s.spares p i = .assigned) (ho : spareOwner s p i = some (role, k)) :
    spareEntry s p i = 1 :: role :: keyBytes k := by
  unfold spareEntry
  dsimp only
  rw [if_pos h, ho, h]
  rfl

/-- The owner's role as its record names the spare. -/
def Record.role (p : BankPos) (i : SpareIdx) (r : Record) : Option (Byte × RowKey) :=
  if keyPos r.key = p then
    if r.homeSpare = some i then some (0, r.key) else if r.destSpare = some i then some (1, r.key) else none
  else none

theorem role_none {p : BankPos} {i : SpareIdx} {r : Record} :
    r.role p i = none ↔ ¬ (keyPos r.key = p ∧ (r.homeSpare = some i ∨ r.destSpare = some i)) := by
  unfold Record.role
  (repeat' split) <;> simp_all

/-- Where one record of the bank names the spare, it is the owner. -/
theorem spareOwner_of_only {s : State} {p : BankPos} {i : SpareIdx} {r : Record} {o : Byte × RowKey} (hr : r ∈ s.table)
    (ho : r.role p i = some o)
    (honly : ∀ r' ∈ s.table, keyPos r'.key = p → r'.homeSpare = some i ∨ r'.destSpare = some i → r' = r) :
    spareOwner s p i = some o := by
  have hsome : (s.table.findSome? (Record.role p i)).isSome := List.findSome?_isSome_iff.2 ⟨r, hr, by rw [ho]; rfl⟩
  obtain ⟨o', ho'⟩ := Option.isSome_iff_exists.1 hsome
  obtain ⟨x, hx, hxo⟩ := List.exists_of_findSome?_eq_some ho'
  have hnames : keyPos x.key = p ∧ (x.homeSpare = some i ∨ x.destSpare = some i) :=
    by_contra fun hno => by rw [role_none.2 hno] at hxo; cases hxo
  rw [honly x hx hnames.1 hnames.2, ho] at hxo
  exact ho'.trans hxo.symm

/-- Settles O49: each report read off its parts. -/
theorem reportsHaveTheirLengths : Obligations.ReportsHaveTheirLengths := by
  refine ⟨statusReport_length, fun r h => ⟨recordReport_length r h, by rw [recordReport_split]; rfl⟩, spareMapReport_length,
    fun s n => ?_, fun k => rfl, numberOf_bytesOf, ⟨rfl, rfl, rfl, rfl, rfl, rfl, rfl, rfl, keyBytes_eq⟩, fun r => ?_,
    fun s engine hengine => ?_, fun s p => ⟨rfl, rfl, fun i => ⟨fun h => ?_, fun h => ?_, fun r hr ha hp honly => ⟨fun hi => ?_,
      fun hi hd => ?_⟩⟩⟩, fun s n => ⟨fun h => ?_, fun h => ?_, fun k i h => ?_, fun b h => ?_⟩, fun k => rfl⟩
  · unfold storeSlotReport
    split <;> rfl
  · rw [recordReport_split, List.drop_left' (by rfl), bitsByte_four, bitsByte_six]
    rfl
  · rw [statusReport, engineBytes_eq hengine]
    simp [bytesOf_two, yesNo, byteOf, emptyCount, freeTotal]
  · rw [spareMapReport_entry, spareEntry_unassigned (by simp [h]), h]
    rfl
  · rw [spareMapReport_entry, spareEntry_unassigned (by simp [h]), h]
    rfl
  · have hrole : r.role p i = some (0, r.key) := by rw [Record.role, if_pos hp, if_pos hi]
    rw [spareMapReport_entry, spareEntry_assigned ha (spareOwner_of_only hr hrole honly)]
  · have hrole : r.role p i = some (1, r.key) := by rw [Record.role, if_pos hp, if_neg hi, if_pos hd]
    rw [spareMapReport_entry, spareEntry_assigned ha (spareOwner_of_only hr hrole honly)]
  · rw [storeSlotReport, h]
    rfl
  · rw [storeSlotReport, h]
    rfl
  · rw [storeSlotReport, h]
    rfl
  · rw [storeSlotReport, h]
    rfl

end Sys2Proof.Machine
end

section
/-! PROOFS. Losses scored, the evaluation, and decay (O21, O22, O25). -/

namespace Sys2Proof.Machine

/-! ### Attention flags that no verdict reaches (R92, R148, R151) -/

section
variable {f : AttnFlag} (hlow : f ≠ .sparesLow) (hcondemned : f ≠ .condemned)
include hlow

theorem startAttempt_isSet_other (k : RowKey) (d : SpareIdx) (n : Nat) (s : State) :
    (startAttempt k d n s).attn.isSet f = s.attn.isSet f := by
  have hattn : (startAttempt k d n s).attn = (allocate (keyPos k) d s).attn := rfl
  rw [hattn, allocate, warnLow]
  split <;> simp [raise, raise_isSet, hlow.symm]

include hcondemned

/-- The taking of migrations sets no flag but SPARES_LOW and CONDEMNED. -/
theorem takeHeads_isSet_other (n : Nat) (s : State) : (takeHeads n s).attn.isSet f = s.attn.isSet f := by
  induction n generalizing s with
  | zero => rfl
  | succ n ih =>
    unfold takeHeads
    split
    · rfl
    · split
      · rfl
      · dsimp only
        split
        · rw [startAttempt_isSet_other hlow, State.setQueue_attn]
        · rw [ih]
          simp [condemn, raise, raise_isSet, hcondemned.symm]

theorem applyVerdict_isSet_other (r : Record) (v : Verdict) (s : State) :
    (applyVerdict r v s).attn.isSet f = s.attn.isSet f := by
  have henqueue (u : Bool) : (enqueue r.key u s).attn.isSet f = s.attn.isSet f :=
    takeHeads_isSet_other hlow hcondemned _ _
  cases v with
  | keep | suspect => rfl
  | enqueue u => exact henqueue u
  | urge =>
    unfold applyVerdict
    dsimp only
    split
    · exact henqueue true
    · rfl

end

/-! ### A loss scored (R89, R90) -/

section
variable {c : Column} {r : Record}

theorem Record.lose_listed (h : c ∈ r.poison) :
    r.lose c = { r with corrections := min (r.corrections + 1) 65535, weight := 4095 } := by
  simp [Record.lose, h, countCorrection, weightMax]

theorem Record.lose_joins (h : c ∉ r.poison) (hlen : r.poison.length < 4) :
    r.lose c = { r with
      corrections := min (r.corrections + 1) 65535, weight := 4095, poison := r.poison ++ [c] } := by
  simp [Record.lose, h, hlen, countCorrection, weightMax]

theorem Record.lose_overflows (h : c ∉ r.poison) (hlen : 4 ≤ r.poison.length) :
    r.lose c = { r with corrections := min (r.corrections + 1) 65535, weight := 4095, overflow := true } := by
  simp [Record.lose, h, Nat.not_lt.2 hlen, countCorrection, weightMax]

end

/-- Of a record, a loss changes the count, the weight and the poison list with its overflow alone. -/
theorem Record.lose_eq (c : Column) (r : Record) : r.lose c = { r with
    corrections := min (r.corrections + 1) 65535, weight := 4095
    poison := (r.lose c).poison, overflow := (r.lose c).overflow } := by
  by_cases h : c ∈ r.poison
  · rw [Record.lose_listed h]
  · rcases Nat.lt_or_ge r.poison.length 4 with hlen | hlen
    · rw [Record.lose_joins h hlen]
    · rw [Record.lose_overflows h hlen]

/-- A fresh-uncorrectable event on a row that has a record: the verdict on the record as scored, applied. -/
theorem receiveEvent_loss {l : LineAddr} {g : Origin} {r : Record} {s : State} (h : lineRecord s l = some r) :
    receiveEvent ⟨l, g, .uncorrectable⟩ s =
      applyVerdict (r.lose (lineColumn l)) (evaluate s.params true (r.lose (lineColumn l))) { s with
        table := s.table.map fun x => if x.key = lineKey l then r.lose (lineColumn l) else x
        counters := { s.counters with uncorrectable := min (s.counters.uncorrectable + 1) 4294967295 }
        attn := if lineColumn l ∈ r.poison then s.attn
          else { s.attn with flags := s.attn.flags ||| BitVec.twoPow 10 0 } } := by
  have hloss : r.newLoss ⟨l, g, .uncorrectable⟩ = true ↔ lineColumn l ∉ r.poison := by
    simp [Record.newLoss, EventKind.isUncorrectable]
  rw [receiveEvent_tracked (ev := ⟨l, g, .uncorrectable⟩) h, applyEvent, lookup_key h]
  by_cases hc : lineColumn l ∈ r.poison
  · simp only [hloss, hc, not_true, if_false, if_true]
    rfl
  · simp only [hloss, hc, not_false_eq_true, if_false, if_true]
    rfl

/-- The event sets UNCORRECTABLE for a column that was not listed (R90). -/
theorem receiveEvent_loss_isSet {l : LineAddr} (g : Origin) {r : Record} {s : State} (h : lineRecord s l = some r) :
    (receiveEvent ⟨l, g, .uncorrectable⟩ s).attn.isSet .uncorrectable =
      (!decide (lineColumn l ∈ r.poison) || s.attn.isSet .uncorrectable) := by
  rw [receiveEvent_loss h, applyVerdict_isSet_other (by decide) (by decide)]
  by_cases hc : lineColumn l ∈ r.poison
  · simp [hc]
  · simp only [hc, if_false]
    exact raise_isSet s.attn .uncorrectable .uncorrectable

/-- Settles O21: the event is the verdict applied to the record as scored, and no verdict touches the scores or the flag. -/
theorem lossEventScored : Obligations.LossEventScored := by
  intro s l origin r hr
  obtain ⟨r', hr', hscores⟩ := Option.map_eq_some_iff.1
    (receiveEvent_scored scores_ignoresProgress ⟨l, origin, .uncorrectable⟩ r s hr)
  have hpoison : r'.poison = (r.lose (lineColumn l)).poison := scores_congr hscores Record.poison fun _ => rfl
  have hoverflow : r'.overflow = (r.lose (lineColumn l)).overflow := scores_congr hscores Record.overflow fun _ => rfl
  have hlose : r.lose (lineColumn l) = { r with
      corrections := min (r.corrections + 1) 65535, weight := 4095, poison := r'.poison, overflow := r'.overflow } := by
    rw [hpoison, hoverflow]
    exact Record.lose_eq _ r
  have hkept {α : Type} (f : Record → α) (hf : ∀ r, f (.scores r) = f r) : f r' = f { r with
      corrections := min (r.corrections + 1) 65535, weight := 4095, poison := r'.poison, overflow := r'.overflow } :=
    (scores_congr hscores f hf).trans (congrArg f hlose)
  have hflag := receiveEvent_loss_isSet origin hr
  have hcounters : (receiveEvent ⟨l, origin, .uncorrectable⟩ s).counters =
      { s.counters with uncorrectable := min (s.counters.uncorrectable + 1) 4294967295 } := by
    rw [receiveEvent_loss hr]
    simp only [applyVerdict_frame]
  refine ⟨r', hr', hkept Record.corrections fun _ => rfl, hkept Record.weight fun _ => rfl,
    hkept Record.signature fun _ => rfl, fun hc => ?_, fun hc hlen => ?_, fun hc hlen => ?_,
    hkept Record.slot fun _ => rfl, hkept Record.key fun _ => rfl, hkept Record.origin fun _ => rfl,
    hkept Record.homeSpare fun _ => rfl, hkept Record.pinned fun _ => rfl, hkept Record.blocked fun _ => rfl,
    hkept Record.persisted fun _ => rfl, hkept Record.persistWanted fun _ => rfl,
    _, _, _, _, _, hcounters ▸ receiveEvent_eq_frame _ s, _, rfl, ?_⟩
  · rw [hpoison, hoverflow, hflag, Record.lose_listed hc]
    simp [hc]
  · rw [hpoison, hoverflow, hflag, Record.lose_joins hc hlen]
    simp [hc]
  · rw [hpoison, hoverflow, hflag, Record.lose_overflows hc hlen]
    simp [hc]
  · rw [← hlose]
    exact receiveEvent_loss hr

/-! ### What the evaluation decides (R92 to R94) -/

theorem Record.stuck_iff {p : Params} {r : Record} :
    r.stuck p = true ↔ ∃ g : Signature, r.signature = some g ∧ p.stuck ≤ g.repeats := by
  unfold Record.stuck
  cases r.signature <;> simp

section
variable {p : Params} {loss : Bool} {r : Record} {sparing : Bool}
  (hsparing : sparing = true ↔ p.tSpare ≤ r.weight ∨ ∃ g : Signature, r.signature = some g ∧ p.stuck ≤ g.repeats)
include hsparing

/-- R92: the tests in their order. -/
theorem openVerdict_eq : openVerdict p loss r =
    if loss then .enqueue true else if sparing then .enqueue false
    else if p.tSuspect ≤ r.weight then .suspect else .keep := by
  have hspare : sparing = (decide (p.tSpare ≤ r.weight) || r.stuck p) := by
    rw [Bool.eq_iff_iff, hsparing, Bool.or_eq_true, decide_eq_true_iff, Record.stuck_iff]
  rw [openVerdict, hspare]

/-- R93: the tests in any order. -/
theorem blockedVerdict_eq : blockedVerdict p loss r =
    if loss = true ∨ sparing = true ∨ p.tSuspect ≤ r.weight then .suspect else .keep := by
  rw [blockedVerdict, openVerdict_eq hsparing]
  cases loss with
  | true => simp
  | false =>
    cases sparing with
    | true => simp
    | false => by_cases hw : p.tSuspect ≤ r.weight <;> simp [hw]

end

/-- Settles O22: the state of the record picks the tests, and each verdict is the change of one record, with the queue that the
record joins. -/
theorem evaluationOutcomes : Obligations.EvaluationOutcomes := by
  refine ⟨fun p loss r sparing hsparing => ⟨fun hb hst => ?_, fun hb hst => ?_, fun hb hst => ?_, fun hst => ?_,
    fun hst => ?_, fun hst => ?_⟩, fun s r => ⟨rfl, rfl, rfl, rfl, fun hst => ?_, fun hst => ?_⟩⟩
  · rw [← openVerdict_eq hsparing]
    rcases hst with hst | hst | hst <;> simp [evaluate, hst, hb]
  · rw [← blockedVerdict_eq hsparing]
    rcases hst with hst | hst <;> simp [evaluate, hst, hb]
  · simp [evaluate, hst, hb]
  · simp [evaluate, hst]
  · simp [evaluate, hst]
  · simp [evaluate, hst]
  · simp [applyVerdict, hst]
  · simp only [applyVerdict, if_neg hst]
    rfl

/-! ### Decay (R96 to R98) -/

theorem Record.decay_weight (p : Params) (r : Record) : (r.decay p).weight = decayWeight p.decayShift r.weight := by
  unfold Record.decay
  dsimp only
  split <;> rfl

/-- R97: a record leaves SUSPECT below half of its threshold. -/
theorem Record.decay_state (p : Params) (r : Record) : (r.decay p).state =
    if r.state = .suspect ∧ (r.decay p).weight < p.tSuspect / 2 then
      if r.homeSpare.isSome then .spared else .watch
    else r.state := by
  rw [r.decay_weight]
  unfold Record.decay
  dsimp only
  split <;> rfl

theorem Record.decay_rest (p : Params) (r : Record) :
    { r.decay p with weight := r.weight, state := r.state, urgent := r.urgent } = r := by
  unfold Record.decay
  dsimp only
  split <;> rfl

/-- Decay leaves what keeps a record from release (R98). -/
theorem Record.decay_kept (p : Params) (r : Record) :
    (r.decay p).pinned = r.pinned ∧ (r.decay p).poison = r.poison ∧ (r.decay p).overflow = r.overflow := by
  unfold Record.decay
  dsimp only
  split <;> exact ⟨rfl, rfl, rfl⟩

theorem Record.faded_iff (r : Record) : r.faded = true ↔
    r.state = .watch ∧ r.weight = 0 ∧ r.pinned = false ∧ r.poison = [] ∧ r.overflow = false := by
  simp [Record.faded, and_assoc]

theorem mem_decayAll {s : State} {r : Record} :
    r ∈ (decayAll s).table ↔ (∃ x ∈ s.table, x.decay s.params = r) ∧ r.faded = false := by
  simp [decayAll]

/-- R98: a record leaves the table exactly when decay has left it faded, since no other record has its key (R57). -/
theorem decayAll_releases_iff {s : State} (h : TableLaw s) {r : Record} (hr : r ∈ s.table) :
    (∀ r' ∈ (decayAll s).table, r'.key ≠ r.key) ↔ (r.decay s.params).faded = true := by
  constructor
  · intro hgone
    by_contra hf
    exact hgone _ (mem_decayAll.2 ⟨⟨r, hr, rfl⟩, by simpa using hf⟩) (r.decay_place s.params).1
  · intro hf r' hr' hkey
    obtain ⟨⟨x, hx, rfl⟩, hstays⟩ := mem_decayAll.1 hr'
    rw [record_of_key h hr hx ((x.decay_place s.params).1.symm.trans hkey), hf] at hstays
    cases hstays

/-- Settles O25: one record's decay field by field, and the records released, whose WATCH rules out a home spare (R54). -/
theorem decayActsOnRecords : Obligations.DecayActsOnRecords := by
  refine ⟨fun p r => ⟨fun hw => ?_, fun hw => ?_, fun hst => ?_, fun hst hw => ?_, fun hst hw => ?_, r.decay_rest p⟩,
    fun s htable hhome r hr => ?_⟩
  · rw [r.decay_weight, decayWeight, if_pos hw]
  · rw [r.decay_weight, decayWeight, if_neg hw]
  · rw [r.decay_state, if_neg fun h => hst h.1]
  · rw [r.decay_state, if_neg fun h => Nat.not_lt.2 hw h.2, hst]
  · rw [r.decay_state, if_pos ⟨hst, hw⟩]
  · obtain ⟨hpinned, hpoison, hoverflow⟩ := r.decay_kept s.params
    obtain ⟨-, hspare, -⟩ := r.decay_sparing s.params
    rw [decayAll_releases_iff htable hr, Record.faded_iff, hpinned, hpoison, hoverflow]
    refine ⟨Iff.rfl, fun ⟨hwatch, _⟩ => ?_⟩
    rw [← hspare]
    exact (homeLaw_recordLaw.decay s.params (hhome r hr)).1 hwatch

end Sys2Proof.Machine
end

section
/-! PROOFS. The writeback queue and the verify queue: what a request makes of them (O33). -/

namespace Sys2Proof.Machine

/-! ### The queue's entry for a line (R100) -/

theorem wbEntry_none {s : State} {l : LineAddr} : wbEntry s l = none ↔ ∀ e ∈ s.wbQueue, e.line ≠ l := by
  simp [wbEntry]

/-- The element between a part in which the predicate holds of nothing and any rest is the first. -/
theorem modifyFirst_append_cons {α : Type} {p : α → Bool} {before after : List α} {a : α} (f : α → α)
    (hbefore : ∀ x ∈ before, p x = false) (ha : p a = true) :
    modifyFirst p f (before ++ a :: after) = before ++ f a :: after := by
  induction before with
  | nil => simp [modifyFirst, ha]
  | cons x before ih =>
    obtain ⟨hx, hrest⟩ := List.forall_mem_cons.1 hbefore
    simp [modifyFirst, hx, ih hrest]

theorem wbEntry_append_cons {s : State} {l : LineAddr} {before after : List WbEntry} {c : LineContent}
    (hq : s.wbQueue = before ++ ⟨l, c⟩ :: after) (hbefore : ∀ e ∈ before, e.line ≠ l) : wbEntry s l = some ⟨l, c⟩ := by
  rw [wbEntry, hq, List.find?_append, List.find?_eq_none.2 (by simpa using hbefore)]
  simp

/-! ### The cases of a writeback request (R104, R105) -/

section
variable {s : State} {l : LineAddr} (c : LineContent)

theorem requestWriteback_stale : requestWriteback l c true s = count .wbSuperseded s := if_pos rfl

theorem requestWriteback_merged {before after : List WbEntry} {c' : LineContent}
    (hq : s.wbQueue = before ++ ⟨l, c'⟩ :: after) (hbefore : ∀ e ∈ before, e.line ≠ l) :
    requestWriteback l c false s = { s with wbQueue := before ++ ⟨l, c⟩ :: after } := by
  have hmodify := modifyFirst_append_cons (p := fun e : WbEntry => e.line == l) (a := ⟨l, c'⟩) (after := after)
    (fun e => { e with content := c }) (by simpa using hbefore) (by simp)
  simp only [requestWriteback, wbEntry_append_cons hq hbefore, hq, hmodify, State.setWbQueue, Bool.false_eq_true, if_false]

theorem requestWriteback_dropped (hno : ∀ e ∈ s.wbQueue, e.line ≠ l) (hfull : 16 ≤ s.wbQueue.length) :
    requestWriteback l c false s = count .wbDropped s := by
  simp only [requestWriteback, wbEntry_none.2 hno, hfull, Bool.false_eq_true, if_false, if_true]

theorem requestWriteback_appended (hno : ∀ e ∈ s.wbQueue, e.line ≠ l) (hroom : s.wbQueue.length < 16) :
    requestWriteback l c false s = { s with wbQueue := s.wbQueue ++ [⟨l, c⟩] } := by
  simp only [requestWriteback, wbEntry_none.2 hno, Nat.not_le.2 hroom, State.setWbQueue, Bool.false_eq_true, if_false]

end

/-! ### The cases of a verify request (R111) -/

section
variable {s : State} {l : LineAddr}

theorem requestVerify_queued (h : l ∈ s.verifyQueue) : requestVerify l s = s := by
  simp only [requestVerify, List.contains_iff_mem, h, if_true]

theorem requestVerify_dropped (h : l ∉ s.verifyQueue) (hfull : 8 ≤ s.verifyQueue.length) :
    requestVerify l s = count .verifyDropped s := by
  simp only [requestVerify, List.contains_iff_mem, h, hfull, if_false, if_true]

theorem requestVerify_appended (h : l ∉ s.verifyQueue) (hroom : s.verifyQueue.length < 8) :
    requestVerify l s = { s with verifyQueue := s.verifyQueue ++ [l] } := by
  simp only [requestVerify, List.contains_iff_mem, h, Nat.not_le.2 hroom, State.setVerifyQueue, if_false]

end

/-- Settles O33, case by case in the order of R104 and R105, then of R111. -/
theorem queueRequestsHandled : Obligations.QueueRequestsHandled :=
  ⟨fun _ _ c => ⟨requestWriteback_stale c, fun _ _ _ hq hbefore => requestWriteback_merged c hq hbefore,
      fun hno => ⟨requestWriteback_dropped c hno, requestWriteback_appended c hno⟩⟩,
    fun _ _ => ⟨requestVerify_queued, requestVerify_dropped, requestVerify_appended⟩⟩

end Sys2Proof.Machine
end

section
/-! PROOFS. The verify read: which entry is next, its performance and its completion (O35). -/

namespace Sys2Proof.Machine

/-! ### The entry that is next (R113) -/

theorem verifyEligible_iff {s : State} {l : LineAddr} : verifyEligible s l = true ↔ MayVerify s l := by
  simp [verifyEligible, writebackInFlight, wbEntry_none]

theorem nextVerify_some {s : State} {l : LineAddr} : nextVerify s = some l ↔
    ∃ before after : List LineAddr, s.verifyQueue = before ++ l :: after ∧ MayVerify s l ∧
      ∀ x ∈ before, ¬ MayVerify s x := by
  simp only [nextVerify, List.find?_eq_some_iff_append, Bool.not_eq_true', ← Bool.not_eq_true, verifyEligible_iff,
    ← exists_and_left, and_left_comm]

theorem nextVerify_none {s : State} : nextVerify s = none ↔ ∀ x ∈ s.verifyQueue, ¬ MayVerify s x := by
  simp only [nextVerify, List.find?_eq_none, verifyEligible_iff]

theorem nextVerify_mem {s : State} {l : LineAddr} (h : nextVerify s = some l) : l ∈ s.verifyQueue ∧ MayVerify s l :=
  ⟨List.mem_of_find?_eq_some h, verifyEligible_iff.1 (List.find?_some h)⟩

/-! ### What the report of a failed destination counts (R158, R159) -/

/-- The report of a failure counts at most a burned spare. -/
theorem reportFailure_counters (l : LineAddr) (d : SpareIdx) (s : State) :
    ∃ n, (reportFailure l d s).counters = { s.counters with sparesBurned := n } := by
  unfold reportFailure
  split
  · split
    · exact ⟨_, failAttempt_counters _ d s⟩
    · exact ⟨_, rfl⟩
  · exact ⟨_, rfl⟩

theorem reserve_counters (l : LineAddr) (p : Place) (s : State) :
    ∃ n, (reserve l p s).counters = { s.counters with sparesBurned := n } := by
  cases p with
  | hostRow => exact ⟨_, rfl⟩
  | spare d =>
    rw [reserve_spare]
    exact reportFailure_counters l d s

/-! ### Performance and completion (R114, R115) -/

theorem verifyReadPerform_eq {s : State} {l : LineAddr} {o : Op} (hs : s.slot = some (.verify l))
    (ho : headOp s l = some o) (hk : o.kind = .verify) (hst : o.stage = .waiting) :
    exec .verifyReadPerform s = .next (issueRead l (readTarget (lineRecord s l) (lineColumn l)).1
      (readTarget (lineRecord s l) (lineColumn l)).2 s) := by
  simp only [exec, execVerifyReadPerform, hs, ho, hk, hst, and_self, if_true]

theorem verifyReadComplete_final {s : State} {l : LineAddr} {damage : StoredLine} {o : Op} {p : Place}
    (hs : s.slot = some (.verify l)) (ho : completing s l = some o) (hk : o.kind = .verify)
    (hst : FinalRead s l o p damage) :
    exec (.verifyReadComplete damage) s = .next (finishVerify l o (readLine s l p damage) s) := by
  rcases hst with ⟨n, hst⟩ | ⟨via, n, hst, hm⟩
  · simp only [exec, execVerifyReadComplete, hs, ho, hk, hst]
  · simp only [exec, execVerifyReadComplete, hs, ho, hk, hst, hm, Bool.false_eq_true, if_false]

/-- The decode is handed on, the line order left and the slot freed. -/
theorem finishVerify_eq (l : LineAddr) (o : Op) (d : Decode) (s : State) :
    finishVerify l o d s = { handWriteback d o.overtaken (handEvent d .verify s) with
      ops := s.ops.eraseP fun o => o.line == l, slot := none } := by
  simp [finishVerify, freeSlot, leaveOrder, State.setSlot, State.setOps]

section
variable {l : LineAddr} {d : Decode} (o : Op) (s : State)

theorem finishVerify_silent (h : d.outcome = .clean ∨ d.outcome = .mark) :
    finishVerify l o d s = { s with ops := s.ops.eraseP fun o => o.line == l, slot := none } := by
  rw [finishVerify_eq, handEvent_silent _ _ h, handWriteback_silent _ _ h]

theorem finishVerify_corrected {c : Cell} (hl : d.line = l) (h : d.outcome = .corrected) (hc : d.cell = some c) :
    finishVerify l o d s =
      { requestWriteback l (.data d.data) o.overtaken (receiveEvent ⟨l, .verify, .correction c⟩ s) with
        ops := s.ops.eraseP fun o => o.line == l, slot := none } := by
  rw [finishVerify_eq, handEvent_corrected _ _ h hc, handWriteback_corrected _ _ h, hl]

theorem finishVerify_uncorrectable (hl : d.line = l) (h : d.outcome = .uncorrectable) :
    finishVerify l o d s =
      { requestWriteback l .mark o.overtaken (receiveEvent ⟨l, .verify, .uncorrectable⟩ s) with
        ops := s.ops.eraseP fun o => o.line == l, slot := none } := by
  rw [finishVerify_eq, handEvent_uncorrectable _ _ h, handWriteback_uncorrectable _ _ h, hl]

end

/-- A correction met by a verify read, with the request that follows, counts one patrol correction (R91). -/
theorem verifyCorrected_after {l : LineAddr} (cell : Cell) (c : LineContent) (b : Bool) (s : State) :
    (requestWriteback l c b (receiveEvent ⟨l, .verify, .correction cell⟩ s)).counters.patrolCorrected =
      min (s.counters.patrolCorrected + 1) 4294967295 := by
  have hev : (receiveEvent ⟨l, .verify, .correction cell⟩ s).counters.patrolCorrected =
      min (s.counters.patrolCorrected + 1) 4294967295 := by
    have hcount := countEvent_patrolCorrected (l := l) cell s (.inr (.inl rfl))
    rcases receiveEvent_counters ⟨l, .verify, .correction cell⟩ s with h | h <;> simp only [h, hcount, Counters.bump]
  rcases requestWriteback_counters l c b (receiveEvent ⟨l, .verify, .correction cell⟩ s) with h | h | h <;>
    simp only [h, hev, Counters.bump]

/-- Settles O35: the choice is a search for the oldest eligible entry; a read that must be served again is `reserve`, any other
ends in `finishVerify`, one equation per outcome. -/
theorem verifyReadPerformed : Obligations.VerifyReadPerformed := by
  refine ⟨fun s l => nextVerify_mem, fun s l => nextVerify_some, fun s => nextVerify_none, fun s l o hs hk =>
    ⟨fun ho hst => ?_, fun damage p n ho hst hm => ?_, fun damage p ho hst => ?_⟩⟩
  · rw [verifyReadPerform_eq hs ho hk hst, issueRead_eq]
  · obtain ⟨burned, hcounters⟩ := reserve_counters l p s
    exact ⟨_, _, read_reserved ho hst (.inr (.inr ⟨hk, hs, rfl⟩)) hm,
      headOp_staged (completing_head ho).1 (reserve_ops l p s), rfl, by simp, by simp, by simp, by simp,
      by rw [hcounters], by rw [hcounters]⟩
  · rw [verifyReadComplete_final hs ho hk hst]
    have hline := readLine_line s l p damage
    generalize readLine s l p damage = d at hline ⊢
    refine ⟨fun h => by rw [finishVerify_silent o s h], fun c h hc => ⟨_, rfl, ?_⟩, fun h => ⟨_, rfl, ?_⟩⟩
    · rw [finishVerify_corrected o s hline h hc]
      exact ⟨wbQueue_after_event _ l _ _ s, verifyCorrected_after c _ _ s, rfl⟩
    · rw [finishVerify_uncorrectable o s hline h]
      exact ⟨wbQueue_after_event _ l _ _ s, uncorrectable_after _ _ _ s, rfl⟩

end Sys2Proof.Machine
end

section
/-! PROOFS. What a grant of the background issue slot issues (O32). -/

namespace Sys2Proof.Machine

/-! ### Whether a grant is made (R139, R142) -/

theorem backgroundGrant_none {s : State} (h : s.phase = .loading ∨ s.slot ≠ none ∨ award s = none) :
    exec .backgroundGrant s = .next s := by
  rcases h with h | h | h <;> simp [exec, execBackgroundGrant, h]

theorem backgroundGrant_awarded {s : State} {c : Claimant} (hp : s.phase = .running) (hs : s.slot = none)
    (ha : award s = some c) : exec .backgroundGrant s = .next (issueFor c s) := by
  simp only [exec, execBackgroundGrant, hp, hs, ha, and_self, if_true]

/-! ### What each claimant issues (R108, R114, R128, R152) -/

theorem issueBackground_eq (holder : Holder) (o : Op) (s : State) :
    issueBackground holder o s = { s with slot := some holder, ops := s.ops ++ [o] } := rfl

section
variable {s : State}

theorem issueWriteback_head {e : WbEntry} {rest : List WbEntry} (hq : s.wbQueue = e :: rest) :
    issueFor .writeback s = { s with
      wbQueue := rest
      slot := some (.writeback e.line)
      ops := s.ops ++ [⟨e.line, .writeback e.content, none, .waiting, none⟩] } := by
  simp only [issueFor, issueWriteback, hq, issueBackground_eq, State.setWbQueue]

theorem issueVerify_next {l : LineAddr} (hn : nextVerify s = some l) :
    issueFor .verify s = { s with
      verifyQueue := s.verifyQueue.filter fun x => x != l
      slot := some (.verify l)
      ops := s.ops ++ [⟨l, .verify, none, .waiting, some false⟩] } := by
  simp only [issueFor, issueVerify, hn, issueBackground_eq, State.setVerifyQueue]

theorem issuePatrol_line {c : Column} (hc : s.patrol.current = some c) :
    issueFor .patrol s = { s with
      slot := some (.patrol (lineOf (keyAt s.patrol.pos s.patrol.row) c))
      ops := s.ops ++ [⟨lineOf (keyAt s.patrol.pos s.patrol.row) c, .patrol, none, .waiting, some false⟩] } := by
  simp only [issueFor, issuePatrol, hc, issueBackground_eq, cursorKey]

variable {r : Record} {d : SpareIdx} {m : MigSub} (hr : migrating s = some r) (hd : r.destSpare = some d)
  (hm : r.migration = some m)
include hr hd hm

theorem issueStep_copy (hphase : m.phase = .copy) :
    issueFor .migration s = { s with
      slot := some .migration
      engine := { s.engine with step := some ⟨lineOf r.key (Fin.ofNat 128 m.copyCursor), d, .copyRead, false⟩ }
      ops := s.ops ++ [⟨lineOf r.key (Fin.ofNat 128 m.copyCursor), .copyRead, none, .waiting, some false⟩] } := by
  simp only [issueFor, issueStep, hr, hd, hm, hphase, issueBackground_eq, State.setEngine]

theorem issueStep_check (hphase : m.phase = .check) :
    issueFor .migration s = { s with
      slot := some .migration
      engine := { s.engine with step := some ⟨lineOf r.key (Fin.ofNat 128 m.checkCursor), d, .checkRead, false⟩ }
      ops := s.ops ++ [⟨lineOf r.key (Fin.ofNat 128 m.checkCursor), .checkRead, none, .waiting, none⟩] } := by
  simp only [issueFor, issueStep, hr, hd, hm, hphase, issueBackground_eq, State.setEngine]

end

/-- Settles O32: a grant is what the claimant that is awarded the slot issues, one equation per claimant. -/
theorem grantIssuesOperation : Obligations.GrantIssuesOperation := by
  refine ⟨fun s => backgroundGrant_none, fun s hp hs => ⟨fun e rest ha hq => ?_, fun l ha hn => ?_, fun c ha hc => ?_,
    fun r d m ha hr hd hm => ⟨fun hphase => ?_, fun hphase => ?_⟩⟩⟩
  · rw [backgroundGrant_awarded hp hs ha, issueWriteback_head hq]
  · rw [backgroundGrant_awarded hp hs ha, issueVerify_next hn]
  · rw [backgroundGrant_awarded hp hs ha, issuePatrol_line hc]
  · rw [backgroundGrant_awarded hp hs ha, issueStep_copy hr hd hm hphase]
  · rw [backgroundGrant_awarded hp hs ha, issueStep_check hr hd hm hphase]

end Sys2Proof.Machine
end

section
/-! PROOFS. The patrol: the mask, the pace interval, the cursor, and the beginning of row patrols (O27, O28, O29). -/

namespace Sys2Proof.Machine

/-! ### Bank positions included (R120) -/

theorem includedCount_eq_zero {mask : BitVec 32} : includedCount mask = 0 ↔ mask = 0 := by
  rw [includedCount, List.countP_eq_zero]
  constructor
  · intro hnone
    refine BitVec.eq_of_getLsbD_eq fun i hi => ?_
    simpa [included] using hnone ⟨i, hi⟩ (List.mem_finRange _)
  · rintro rfl b -
    simp [included]

theorem includedCount_le (mask : BitVec 32) : includedCount mask ≤ 32 := by
  simpa [includedCount] using List.countP_le_length (p := included mask) (l := List.finRange 32)

/-- The first position that a search in ascending order finds. -/
theorem find?_finRange_eq_some {n : Nat} {p : Fin n → Bool} {q : Fin n} :
    (List.finRange n).find? p = some q ↔ p q = true ∧ ∀ b < q, ¬ p b = true :=
  List.find?_ofFn_eq_some_of_injective (f := id) Function.injective_id

/-! ### The pace interval (R121) -/

theorem paceInterval_none {p : Params} (h : p.bankMask = 0) : paceInterval p = none := by
  rw [paceInterval, passPositions, includedCount_eq_zero.2 h, Nat.zero_mul, if_pos rfl]

theorem paceInterval_some {p : Params} (h : p.bankMask ≠ 0) :
    paceInterval p = some (p.period * 60000000 / (includedCount p.bankMask * 65536)) := by
  have hcount := mt includedCount_eq_zero.1 h
  rw [paceInterval, if_neg (by simpa [passPositions] using hcount), passPositions]

/-- The least interval is that of 60 minutes over all positions, the greatest that of 2,880 minutes over one. -/
theorem interval_bounds {period count : Nat} (hleast : 60 ≤ period) (hmost : period ≤ 2880) (hpos : 0 < count)
    (hle : count ≤ 32) :
    1716 ≤ period * 60000000 / (count * 65536) ∧ period * 60000000 / (count * 65536) ≤ 2636718 := by
  constructor
  · rw [Nat.le_div_iff_mul_le (by omega)]
    omega
  · rw [← Nat.lt_succ_iff, Nat.div_lt_iff_lt_mul (by omega)]
    omega

/-- Settles O28: a mask that is not empty includes from 1 to 32 positions, which bounds the quotient. -/
theorem paceIntervalBounded : Obligations.PaceIntervalBounded := by
  intro p
  refine ⟨paceInterval_none, fun hmask hleast hmost => ⟨paceInterval_some hmask, ?_⟩⟩
  exact interval_bounds hleast hmost (Nat.pos_of_ne_zero (mt includedCount_eq_zero.1 hmask)) (includedCount_le _)

/-! ### The cursor (R120, R124, R131) -/

theorem nextPosition_same_row {mask : BitVec 32} {row : HostRow} {pos q : BankPos} (hafter : pos < q)
    (hq : included mask q = true) (hfirst : ∀ b, pos < b → b < q → included mask b = false) :
    nextPosition mask row pos = some (row, q, false) := by
  have hfind : (List.finRange 32).find? (fun p => decide (pos < p) && included mask p) = some q := by
    refine find?_finRange_eq_some.2 ⟨by simp [hafter, hq], fun b hb => ?_⟩
    simpa using fun hpos => hfirst b hpos hb
  rw [nextPosition, hfind]

theorem nextPosition_row_left {mask : BitVec 32} {row : HostRow} {pos : BankPos}
    (hend : ∀ b, pos < b → included mask b = false) :
    nextPosition mask row pos = ((List.finRange 32).find? (included mask)).map fun p =>
      if h : row.val + 1 < 65536 then (⟨row.val + 1, h⟩, p, false) else (0, p, true) := by
  have hfind : (List.finRange 32).find? (fun p => decide (pos < p) && included mask p) = none := by
    simpa [List.find?_eq_none] using hend
  rw [nextPosition, hfind]

theorem nextPosition_next_row {mask : BitVec 32} {row : HostRow} {pos q : BankPos}
    (hend : ∀ b, pos < b → included mask b = false) (hq : included mask q = true)
    (hfirst : ∀ b < q, included mask b = false) :
    nextPosition mask row pos =
      some (if h : row.val + 1 < 65536 then (⟨row.val + 1, h⟩, q, false) else (0, q, true)) := by
  rw [nextPosition_row_left hend, find?_finRange_eq_some.2 ⟨hq, fun b hb => by simp [hfirst b hb]⟩, Option.map_some]

theorem nextPosition_empty {row : HostRow} {pos : BankPos} : nextPosition 0 row pos = none := by
  have hnone : (List.finRange 32).find? (included 0) = none := by simp [List.find?_eq_none, included]
  rw [nextPosition_row_left (by simp [included]), hnone, Option.map_none]

theorem advanceCursor_stays {s : State} (h : nextPosition s.params.bankMask s.patrol.row s.patrol.pos = none) :
    advanceCursor s = s := by
  rw [advanceCursor, h]

theorem advanceCursor_moves {s : State} {row : HostRow} {q : BankPos}
    (h : nextPosition s.params.bankMask s.patrol.row s.patrol.pos = some (row, q, false)) :
    advanceCursor s = { s with patrol := { s.patrol with row := row, pos := q } } := by
  rw [advanceCursor, h]
  rfl

/-- At the wrap the pass completes (R131). -/
theorem advanceCursor_wraps {s : State} {row : HostRow} {q : BankPos}
    (h : nextPosition s.params.bankMask s.patrol.row s.patrol.pos = some (row, q, true)) :
    advanceCursor s = { s with
      patrol := { s.patrol with row := row, pos := q, passNumber := s.patrol.passNumber + 1 }
      table := (s.table.map (Record.decay s.params)).filter fun r => !r.faded } := by
  rw [advanceCursor, h]
  rfl

/-- Settles O29: within the row, at the end of a row and at the wrap, and for the empty mask. -/
theorem patrolOrderVisitsIncluded : Obligations.PatrolOrderVisitsIncluded := by
  refine ⟨fun s q hafter hq hfirst => advanceCursor_moves (nextPosition_same_row hafter hq hfirst),
    fun s q hend hq hfirst => ?_, fun s hmask => advanceCursor_stays (hmask ▸ nextPosition_empty)⟩
  have hnext := nextPosition_next_row (row := s.patrol.row) hend hq hfirst
  refine ⟨fun h => advanceCursor_moves ?_, fun hlast => advanceCursor_wraps ?_⟩
  · rw [hnext, dif_pos h]
  · rw [hnext, dif_neg (by omega)]

/-! ### The beginning of row patrols (R126, R130) -/

/-- R126's four conditions: with one of them missing no row patrol begins. -/
theorem beginRow_idle {s : State}
    (h : s.phase = .loading ∨ s.params.bankMask = 0 ∨ s.patrol.current.isSome = true ∨ s.patrol.credits = 0) :
    beginRow s = s := by
  rw [beginRow]
  cases hc : s.patrol.credits with
  | zero => rw [beginRows]
  | succ k =>
    rw [beginRows, if_neg]
    rintro ⟨hrunning, hmask, hcurrent, -⟩
    rcases h with h | h | h | h
    · cases hrunning.symm.trans h
    · exact hmask (includedCount_eq_zero.2 h)
    · simp [hcurrent] at h
    · omega

section
variable {s : State} {k : Nat} (hrunning : s.phase = .running) (hmask : s.params.bankMask ≠ 0)
  (hcurrent : s.patrol.current = none) (hcredits : s.patrol.credits = k + 1)
include hrunning hmask hcurrent hcredits

/-- The beginning spends a credit and looks up the record of the cursor's position (R126). -/
theorem beginRow_spends : beginRow s =
    match lookup s (keyAt s.patrol.pos s.patrol.row) with
    | some r =>
      if r.state = .migrating then beginRows k (completeRow (s.setPatrol { s.patrol with credits := k }))
      else { s with patrol := { s.patrol with credits := k, current := some 0 } }
    | none => { s with patrol := { s.patrol with credits := k, current := some 0 } } := by
  have hbegins : s.phase = .running ∧ includedCount s.params.bankMask ≠ 0 ∧ s.patrol.current = none ∧
      s.patrol.credits ≠ 0 := ⟨hrunning, mt includedCount_eq_zero.1 hmask, hcurrent, by omega⟩
  rw [beginRow, hcredits, beginRows, if_pos hbegins, hcredits]
  rfl

theorem beginRow_begins
    (hrow : ∀ r, lookup s (keyAt s.patrol.pos s.patrol.row) = some r → r.state ≠ .migrating) :
    beginRow s = { s with patrol := { s.patrol with credits := k, current := some 0 } } := by
  rw [beginRow_spends hrunning hmask hcurrent hcredits]
  cases hr : lookup s (keyAt s.patrol.pos s.patrol.row) with
  | none => rfl
  | some r => exact if_neg (hrow r hr)

/-- The skipped row completes at once, and what credits remain bound the beginnings that follow (R130). -/
theorem beginRow_skips {r : Record} (hr : lookup s (keyAt s.patrol.pos s.patrol.row) = some r)
    (hmoving : r.state = .migrating) :
    beginRow s = beginRow (advanceCursor { s with patrol := { s.patrol with credits := k } }) := by
  have hcomplete : completeRow (s.setPatrol { s.patrol with credits := k }) =
      advanceCursor { s with patrol := { s.patrol with credits := k } } := by
    rw [completeRow, ← hcurrent]
    rfl
  rw [beginRow_spends hrunning hmask hcurrent hcredits, hr]
  dsimp only
  rw [if_pos hmoving, hcomplete, beginRow, advanceCursor_credits]

end

/-! ### An expiry of the pace timer (R122, R123) -/

theorem earnCredit_below {s : State} (h : s.patrol.credits < 64) :
    earnCredit s = { s with patrol := { s.patrol with credits := s.patrol.credits + 1 } } := if_pos h

theorem earnCredit_lost {s : State} (h : ¬ s.patrol.credits < 64) :
    earnCredit s = { s with
      counters := { s.counters with patrolOverrun := min (s.counters.patrolOverrun + 1) 4294967295 }
      attn := { s.attn with flags := s.attn.flags ||| BitVec.twoPow 10 5 } } := if_neg h

theorem paceTimerExpiry_eq {s : State} {i : Nat} (h : s.patrol.paceTimer = some i) :
    exec .paceTimerExpiry s = .next (beginRow (earnCredit s)) := by
  simp only [exec, execPaceTimerExpiry, h]

/-- Settles O27: the credit, R126's conditions, and the two together at an expiry, below 64 and at 64. -/
theorem paceTimerEarnsCredits : Obligations.PaceTimerEarnsCredits := by
  refine ⟨fun s i hi => paceTimerExpiry_eq hi, fun s => ⟨beginRow_idle, fun k hrunning hmask hcurrent hcredits =>
    ⟨beginRow_begins hrunning hmask hcurrent hcredits, fun r => beginRow_skips hrunning hmask hcurrent hcredits⟩⟩,
    fun s i hi => ?_⟩
  rw [paceTimerExpiry_eq hi]
  refine ⟨fun hbelow hbusy => ?_, fun hfull hbusy => ?_, fun hcurrent hrunning hmask hrow =>
    ⟨fun hbelow => ?_, fun hfull => ?_⟩⟩
  · rw [earnCredit_below hbelow]
    exact congrArg Host.Outcome.next (beginRow_idle (.inr (.inr (.inl hbusy))))
  · rw [earnCredit_lost (by omega)]
    exact congrArg Host.Outcome.next (beginRow_idle (.inr (.inr (.inl hbusy))))
  · rw [earnCredit_below hbelow]
    exact congrArg Host.Outcome.next (beginRow_begins hrunning hmask hcurrent rfl hrow)
  · rw [earnCredit_lost (by omega)]
    exact congrArg Host.Outcome.next (beginRow_begins hrunning hmask hcurrent hfull hrow)

end Sys2Proof.Machine
end

section
/-! PROOFS. The gate: HOLD_N and its timer, the occupancy reports and the dwell timer (O26). -/

namespace Sys2Proof.Machine

/-! ### HOLD_N and its timer (R137, R138) -/

section
variable {s : State}

theorem holdNAssertion_idle (h : s.hold.state = .idle) :
    exec .holdNAssertion s = .next { s with hold := ⟨.inForce, some s.params.holdLimit⟩ } := by
  simp only [exec, execHoldNAssertion, h, State.setHold]

theorem holdNAssertion_asserted (h : s.hold.state ≠ .idle) : exec .holdNAssertion s = .next s := by
  cases hst : s.hold.state with
  | idle => exact absurd hst h
  | inForce => simp only [exec, execHoldNAssertion, hst]
  | expired => simp only [exec, execHoldNAssertion, hst]

theorem holdNDeassertion_idle (h : s.hold.state = .idle) : exec .holdNDeassertion s = .next s := by
  simp only [exec, execHoldNDeassertion, h]

theorem holdNDeassertion_asserted (h : s.hold.state ≠ .idle) :
    exec .holdNDeassertion s = .next { s with hold := ⟨.idle, none⟩ } := by
  cases hst : s.hold.state with
  | idle => exact absurd hst h
  | inForce => simp only [exec, execHoldNDeassertion, hst, State.setHold]
  | expired => simp only [exec, execHoldNDeassertion, hst, State.setHold]

theorem holdTimerExpiry_inForce (h : s.hold.state = .inForce) :
    exec .holdTimerExpiry s = .next { s with
      hold := ⟨.expired, none⟩
      counters := { s.counters with holdExpired := min (s.counters.holdExpired + 1) 4294967295 }
      attn := { s.attn with flags := s.attn.flags ||| BitVec.twoPow 10 6 } } := by
  simp only [exec, execHoldTimerExpiry, h]
  rfl

theorem holdTimerExpiry_stopped (h : s.hold.state ≠ .inForce) : exec .holdTimerExpiry s = .next s := by
  cases hst : s.hold.state with
  | idle => simp only [exec, execHoldTimerExpiry, hst]
  | inForce => exact absurd hst h
  | expired => simp only [exec, execHoldTimerExpiry, hst]

end

/-! ### The occupancy and the dwell timer (R135, R136) -/

section
variable {p : Params} {q : Quiet} {n : Nat}

theorem report_above (hn : p.quietThreshold < n) : q.report p n = ⟨.notQuiet, none, n⟩ := by
  have hn : ¬ n ≤ p.quietThreshold := Nat.not_le_of_lt hn
  cases hst : q.state with
  | notQuiet => simp only [Quiet.report, hst, if_neg hn]
  | settling => simp only [Quiet.report, hst, if_neg hn]
  | quiet => simp only [Quiet.report, hst, if_neg hn]

theorem report_settles (hn : n ≤ p.quietThreshold) (hst : q.state = .notQuiet) :
    q.report p n = ⟨.settling, some p.dwell, n⟩ := by
  simp only [Quiet.report, hst, if_pos hn]

/-- From SETTLING and QUIET a low report changes the occupancy alone: the dwell timer runs on. -/
theorem report_stays (hn : n ≤ p.quietThreshold) (h : q.state ≠ .notQuiet) :
    q.report p n = ⟨q.state, q.dwellTimer, n⟩ := by
  cases hst : q.state with
  | notQuiet => exact absurd hst h
  | settling => simp only [Quiet.report, hst, if_pos hn]
  | quiet => simp only [Quiet.report, hst, if_pos hn]

end

theorem dwellTimerExpiry_settling {s : State} (h : s.quiet.state = .settling) :
    exec .dwellTimerExpiry s = .next { s with quiet := ⟨.quiet, none, s.quiet.lastOccupancy⟩ } := by
  simp only [exec, execDwellTimerExpiry, h, State.setQuiet]

theorem dwellTimerExpiry_stopped {s : State} (h : s.quiet.state ≠ .settling) : exec .dwellTimerExpiry s = .next s := by
  cases hst : s.quiet.state with
  | notQuiet => simp only [exec, execDwellTimerExpiry, hst]
  | settling => exact absurd hst h
  | quiet => simp only [exec, execDwellTimerExpiry, hst]

/-- Settles O26: the table of HOLD_N row by row, then that of the occupancy, one equation per event. -/
theorem gateFollowsPinAndOccupancy : Obligations.GateFollowsPinAndOccupancy := by
  refine ⟨⟨fun s hidle => ?_, fun s hforce => ?_, fun s hexpired => ?_⟩, fun p q n => report_above,
    fun p q n hn => ⟨report_settles hn, report_stays hn⟩, fun s => dwellTimerExpiry_settling,
    fun s => dwellTimerExpiry_stopped⟩
  · exact ⟨holdNAssertion_idle hidle, holdNDeassertion_idle hidle, holdTimerExpiry_stopped (by simp [hidle])⟩
  · exact ⟨holdNAssertion_asserted (by simp [hforce]), holdNDeassertion_asserted (by simp [hforce]),
      holdTimerExpiry_inForce hforce⟩
  · exact ⟨holdNAssertion_asserted (by simp [hexpired]), holdNDeassertion_asserted (by simp [hexpired]),
      holdTimerExpiry_stopped (by simp [hexpired])⟩

end Sys2Proof.Machine
end

section
/-! PROOFS. The claims on the background issue slot, and which of them it is awarded to (O31). -/

namespace Sys2Proof.Machine

/-! ### The rank of each claim (R107, R113, R127, R140, R152) -/

section
variable {s : State}

theorem writebackRank_pressure (h : 8 ≤ s.wbQueue.length) : Claimant.writeback.rank s = some 1 := if_pos h

theorem writebackRank_below (hleast : 1 ≤ s.wbQueue.length) (hmost : s.wbQueue.length ≤ 7) :
    Claimant.writeback.rank s = some 4 := by
  rw [Claimant.rank, writebackRank, if_neg (by omega), if_pos hleast]

theorem writebackRank_empty (h : s.wbQueue = []) : Claimant.writeback.rank s = none := by
  simp [Claimant.rank, writebackRank, h]

theorem migrationRank_claims {r : Record} (hr : migrating s = some r) (hstep : s.engine.step = none) :
    Claimant.migration.rank s = some (if r.urgent then 2 else 6) := by
  simp only [Claimant.rank, migrationRank, hr, hstep]

theorem migrating_none (h : ∀ r ∈ s.table, r.state ≠ .migrating) : migrating s = none := by
  simpa [migrating, List.find?_eq_none] using h

theorem migrationRank_idle (h : (∀ r ∈ s.table, r.state ≠ .migrating) ∨ s.engine.step.isSome = true) :
    Claimant.migration.rank s = none := by
  rcases h with hnone | hstep
  · simp only [Claimant.rank, migrationRank, migrating_none hnone]
  · obtain ⟨st, hst⟩ := Option.isSome_iff_exists.1 hstep
    simp only [Claimant.rank, migrationRank, hst]
    cases migrating s with
    | none => rfl
    | some r => rfl

theorem patrolRank_claims {c : Column} (h : s.patrol.current = some c) :
    Claimant.patrol.rank s = some (if s.params.urgentThreshold ≤ s.patrol.credits then 3 else 7) := by
  rw [Claimant.rank, patrolRank, h, Option.map_some]

theorem patrolRank_idle (h : s.patrol.current = none) : Claimant.patrol.rank s = none := by
  rw [Claimant.rank, patrolRank, h, Option.map_none]

theorem verifyRank_claims (h : ∃ l ∈ s.verifyQueue, MayVerify s l) : Claimant.verify.rank s = some 5 := by
  obtain ⟨l, hl, hmay⟩ := h
  have hnext : nextVerify s ≠ none := fun hnone => nextVerify_none.1 hnone l hl hmay
  obtain ⟨x, hx⟩ := Option.ne_none_iff_exists'.1 hnext
  rw [Claimant.rank, verifyRank, hx, Option.map_some]

theorem verifyRank_idle (h : ∀ l ∈ s.verifyQueue, ¬ MayVerify s l) : Claimant.verify.rank s = none := by
  rw [Claimant.rank, verifyRank, nextVerify_none.2 h, Option.map_none]

end

/-! ### No two claims of one rank (R140) -/

/-- The claimant whose claim has the rank: the seven ranks are divided among the four (R140). -/
def claimantOf : Nat → Claimant
  | 1 | 4 => .writeback
  | 2 | 6 => .migration
  | 3 | 7 => .patrol
  | _ => .verify

theorem rank_claimantOf {s : State} {c : Claimant} {k : Nat} (h : c.rank s = some k) :
    k ∈ [1, 2, 3, 4, 5, 6, 7] ∧ claimantOf k = c := by
  cases c with
  | writeback =>
    simp only [Claimant.rank, writebackRank] at h
    split_ifs at h <;> cases h <;> decide
  | migration =>
    simp only [Claimant.rank, migrationRank] at h
    split at h
    · split_ifs at h <;> cases h <;> decide
    · cases h
  | patrol =>
    obtain ⟨_, -, rfl⟩ := Option.map_eq_some_iff.1 h
    split_ifs <;> decide
  | verify =>
    obtain ⟨_, -, rfl⟩ := Option.map_eq_some_iff.1 h
    decide

theorem rank_mem {s : State} {c : Claimant} {k : Nat} (h : c.rank s = some k) : k ∈ [1, 2, 3, 4, 5, 6, 7] :=
  (rank_claimantOf h).1

theorem rank_unique {s : State} {c c' : Claimant} {k : Nat} (h : c.rank s = some k) (h' : c'.rank s = some k) : c = c' :=
  (rank_claimantOf h).2.symm.trans (rank_claimantOf h').2

/-! ### Eligibility and the award (R141, R142) -/

theorem eligible_iff {s : State} {k : Nat} :
    eligible s k = true ↔ s.hold.state ≠ .inForce ∧ (k ≤ 3 ∨ s.quiet.state = .quiet) := by
  cases hst : s.hold.state with
  | idle => simp [eligible, hst]
  | inForce => simp [eligible, hst]
  | expired => simp [eligible, hst]

/-- The eligible claim of one rank: what the award looks for, rank by rank. -/
def eligibleClaim (s : State) (k : Nat) : Option Claimant :=
  if eligible s k then [Claimant.writeback, .migration, .patrol, .verify].find? fun c => c.rank s == some k else none

theorem award_eq (s : State) : award s = [1, 2, 3, 4, 5, 6, 7].findSome? (eligibleClaim s) := rfl

theorem mem_claimants (c : Claimant) : c ∈ [Claimant.writeback, .migration, .patrol, .verify] := by
  cases c <;> decide

theorem eligibleClaim_none {s : State} {k : Nat} (h : eligibleClaim s k = none) {c : Claimant} (hc : c.rank s = some k) :
    eligible s k = false := by
  by_contra hk
  rw [eligibleClaim, if_pos (by simpa using hk), List.find?_eq_none] at h
  exact h c (mem_claimants c) (by simp [hc])

theorem eligibleClaim_some {s : State} {k : Nat} {c : Claimant} (h : eligibleClaim s k = some c) :
    c.rank s = some k ∧ eligible s k = true := by
  obtain ⟨hk, hfind⟩ := Option.ite_none_right_eq_some.1 h
  exact ⟨by simpa using List.find?_some hfind, hk⟩

/-- The ranks before the one awarded hold no eligible claim, and the ranks after it are greater. -/
theorem award_some {s : State} {c : Claimant} (h : award s = some c) :
    ∃ k : Nat, c.rank s = some k ∧ eligible s k = true ∧
      ∀ (c' : Claimant) (k' : Nat), c'.rank s = some k' → eligible s k' = true → k ≤ k' := by
  rw [award_eq, List.findSome?_eq_some_iff] at h
  obtain ⟨before, k, after, hranks, hclaim, hbefore⟩ := h
  obtain ⟨hrank, hk⟩ := eligibleClaim_some hclaim
  refine ⟨k, hrank, hk, fun c' k' hrank' hk' => ?_⟩
  have hascending : (before ++ k :: after).Pairwise (· < ·) := hranks ▸ by decide
  have hmem : k' ∈ before ++ k :: after := hranks ▸ rank_mem hrank'
  rcases List.mem_append.1 hmem with hin | hin
  · exact absurd hk' (by simp [eligibleClaim_none (hbefore k' hin) hrank'])
  · rcases List.mem_cons.1 hin with rfl | hin
    · exact le_rfl
    · exact (List.rel_of_pairwise_cons (List.pairwise_append.1 hascending).2.1 hin).le

theorem award_none {s : State} :
    award s = none ↔ ∀ (c : Claimant) (k : Nat), c.rank s = some k → eligible s k = false := by
  rw [award_eq, List.findSome?_eq_none_iff]
  constructor
  · exact fun h c k hc => eligibleClaim_none (h k (rank_mem hc)) hc
  · intro h k _
    refine Option.eq_none_iff_forall_ne_some.2 fun c hc => ?_
    obtain ⟨hrank, hk⟩ := eligibleClaim_some hc
    exact absurd hk (by simp [h c k hrank])

/-- Settles O31: the rank of each claim, eligibility, and the award, whose claimant is the only one of its rank. -/
theorem grantGoesToHighestRank : Obligations.GrantGoesToHighestRank := by
  refine fun s => ⟨fun _ _ => ⟨writebackRank_pressure, writebackRank_below, writebackRank_empty,
    fun r => migrationRank_claims, migrationRank_idle, fun c => patrolRank_claims, patrolRank_idle, verifyRank_claims,
    verifyRank_idle⟩, fun k => eligible_iff, fun c hc => ?_, award_none⟩
  obtain ⟨k, hrank, hk, hleast⟩ := award_some hc
  refine ⟨k, hrank, hk, fun c' k' hrank' hk' => ⟨hleast c' k' hrank' hk', ?_⟩⟩
  rintro rfl
  exact rank_unique hrank' hrank

end Sys2Proof.Machine
end

section
/-! PROOFS. The Migration Engine takes the head of its queue (O36). -/

namespace Sys2Proof.Machine

/-! ### The engine busy and idle (R150, R151) -/

section
variable {s : State} {k : RowKey} {rest : MigQueue}

theorem migrating_some {r : Record} (h : migrating s = some r) : r ∈ s.table ∧ r.state = .migrating :=
  ⟨List.mem_of_find?_eq_some h, by simpa using List.find?_some h⟩

theorem migrating_eq_none : migrating s = none ↔ ∀ r ∈ s.table, r.state ≠ .migrating := by
  simp [migrating, List.find?_eq_none]

theorem serveQueue_empty (h : s.queue = ⟨[], []⟩) : serveQueue s = s := by
  rw [serveQueue, h]
  rfl

/-- The idle engine takes the head onto the FREE spare of lowest index (R146, R151). -/
theorem serveQueue_starts {d : SpareIdx} (hidle : migrating s = none) (hq : s.queue.takeHead = some (k, rest))
    (hd : lowestFree s.spares (keyPos k) = some d) : serveQueue s = startAttempt k d 1 (s.setQueue rest) := by
  rw [serveQueue, takeHead_length hq, takeHeads, hidle, hq]
  simp only [Option.isSome_none, Bool.false_eq_true, if_false, State.setQueue_spares, hd]

/-- A condemned head leaves the engine idle for the queue that is left (R151). -/
theorem serveQueue_condemns (hidle : migrating s = none) (hq : s.queue.takeHead = some (k, rest))
    (hnone : lowestFree s.spares (keyPos k) = none) : serveQueue s = serveQueue (condemn k (s.setQueue rest)) := by
  rw [serveQueue, takeHead_length hq, takeHeads, hidle, hq]
  simp only [Option.isSome_none, Bool.false_eq_true, if_false, State.setQueue_spares, hnone]
  rfl

theorem condemn_eq (k : RowKey) (s : State) : condemn k s = { s with
    attn := s.attn.raise .condemned
    table := s.table.map fun r => if r.key = k
      then { r with state := .condemned, destSpare := none, migration := none, urgent := false } else r } := rfl

/-- An attempt's beginning: the destination is allocated and the marked-column set is emptied (R148, R151). -/
theorem startAttempt_eq (k : RowKey) (d : SpareIdx) (n : Nat) (s : State) : startAttempt k d n s = { s with
    spares := (allocate (keyPos k) d s).spares
    attn := (allocate (keyPos k) d s).attn
    engine := { s.engine with marked := [] }
    table := s.table.map fun r => if r.key = k
      then { r with state := .migrating, destSpare := some d, migration := some ⟨.copy, 0, 0, n⟩ } else r } := by
  rw [startAttempt, allocate_eq]
  rfl

end

/-- Settles O36: a busy engine takes nothing, an idle one the head, onto the FREE spare of lowest index or into CONDEMNED. -/
theorem engineTakesHead : Obligations.EngineTakesHead := by
  refine ⟨fun k urgent normal => ⟨rfl, rfl, rfl⟩,
    fun s => ⟨fun r => migrating_some, migrating_eq_none, serveQueue_empty⟩,
    fun s k rest hq => ⟨fun r hr => serveQueue_busy (by simp [hr]), fun d hidle hfree hlow => ?_, fun hidle hnone => ?_⟩⟩
  · refine ⟨_, _, ?_, spareState_allocate_self _ _ (s.setQueue rest),
      fun p i hne => spareState_allocate_ne (s.setQueue rest) hne, allocate_attn _ _ (s.setQueue rest)⟩
    rw [serveQueue_starts hidle hq (lowestFree_some.2 ⟨hfree, hlow⟩)]
    exact startAttempt_eq k d 1 (s.setQueue rest)
  · rw [serveQueue_condemns hidle hq (lowestFree_none.2 hnone)]
    exact congrArg serveQueue (condemn_eq k (s.setQueue rest))

end Sys2Proof.Machine
end

section
/-! PROOFS. A host write that meets a copy in flight (O38). -/

namespace Sys2Proof.Machine

/-! ### A host write that stands on the line (R155) -/

theorem writeStands_iff (s : State) (l : LineAddr) : writeStands s l = true ↔
    ∃ o ∈ s.ops, o.line = l ∧ ((∃ d, o.kind = .wr d) ∨ ∃ d e, o.kind = .mwr d e) := by
  rw [writeStands, List.any_eq_true]
  refine exists_congr fun o => and_congr_right fun _ => ?_
  rw [Bool.and_eq_true, beq_iff_eq]
  refine and_congr_right fun _ => ?_
  cases o.kind <;> simp

theorem writeStands_congr {s u : State} (h : u.ops = s.ops) (l : LineAddr) : writeStands u l = writeStands s l := by
  rw [writeStands, writeStands, h]

/-- A host write on the line cancels the copy write, whatever state `t` the copy read's decode was handed on to. -/
theorem afterCopyRead_cancels {s t : State} {st : MigStep} (content : LineContent) (hl : st.leftover = false)
    (ho : t.ops = s.ops) (he : t.engine = s.engine)
    (hw : writeStands { s with ops := s.ops.eraseP fun o => o.line == st.line } st.line = true) :
    afterCopyRead st content (leaveOrder st.line t) = { t with
      ops := s.ops.eraseP fun o => o.line == st.line
      engine := { s.engine with step := some { st with stage := .awaitHost content } } } := by
  have hw' : writeStands (leaveOrder st.line t) st.line = true := by
    rw [← hw]
    exact writeStands_congr (by rw [leaveOrder, ho]; rfl) _
  rw [afterCopyRead, if_neg (by simp [hl]), if_pos hw', leaveOrder, ho, ← he]
  rfl

/-! ### The column ends at the host write's completion (R155) -/

section
variable {s : State} {l : LineAddr} {st : MigStep} {found : LineContent}

/-- The step that stands on the line waits for a host write, with the content that its copy read found. -/
theorem awaitedContent_some (hst : s.engine.step = some st) (hl : st.leftover = false) (hline : st.line = l)
    (hg : st.stage = .awaitHost found) : awaitedContent s l = some found := by
  simp only [awaitedContent, hst, hline, hl, and_self, if_true, hg]

theorem hostWriteEndsColumn_some (h : awaitedContent s l = some found) : hostWriteEndsColumn l s = endColumn l s := by
  rw [hostWriteEndsColumn, h]

/-- The completion of the host write that the copy step waits for: media, marked-column set, the column's end, the answer. -/
theorem finishWrite_endsColumn {o : Op} (targets : List Place) (content : LineContent) (ho : headOp s l = some o)
    (ha : awaitedContent s l = some found) :
    ∃ (m : Media) (marked : List Column),
      finishWrite l o targets content s = ended l o.tag (fun t => .wret t .done)
        { s with slot := none, media := m, engine := ⟨marked, none⟩, table := columnEnded s l } ∧
      Written s.media m l targets content ∧ MarkedFollows s l targets content marked := by
  obtain ⟨marked, he, hf⟩ := writeLine_followMarked l targets content s
  refine ⟨_, marked, ?_, writeLine_written l targets content s, hf⟩
  have hawait := awaitedContent_congr (s := followMarked l targets content (writeLine l targets content s)) (u := s)
    (by rw [he]) l
  rw [finishWrite, hostWriteEndsColumn_some (hawait.trans ha), he, endColumn_eq]
  exact finishRequest_ended _ ho

/-! ### A masked write given up (R156) -/

/-- The next host write of the line is waited for. -/
theorem hostWriteGivenUp_waits (hw : writeStands s l = true) : hostWriteGivenUp l s = s := by
  unfold hostWriteGivenUp
  split
  · rw [if_pos hw]
  · rfl

/-- No host write of the line is left: the copy write is issued. -/
theorem hostWriteGivenUp_issues (hst : s.engine.step = some st) (hl : st.leftover = false) (hline : st.line = l)
    (hg : st.stage = .awaitHost found) (hw : writeStands s l = false) : hostWriteGivenUp l s = { s with
      ops := s.ops ++ [⟨l, .copyWrite, none, .writing [.spare st.dest] found s.stamps, none⟩]
      stamps := s.stamps + 1
      engine := { s.engine with step := some { st with stage := .copyWrite } } } := by
  rw [hostWriteGivenUp, awaitedContent_some hst hl hline hg]
  dsimp only
  rw [hw, if_neg Bool.false_ne_true, issueCopyWrite_some hst]

/-- An event changes nothing of the step in flight. -/
theorem receiveEvent_step (ev : ErrorEvent) (s : State) : (receiveEvent ev s).engine.step = s.engine.step := by
  obtain ⟨-, -, -, -, -, -, -, hstep, -⟩ := receiveEvent_same ev s
  exact hstep

theorem ended_engine_stamps (l : LineAddr) (tag : Option Tag) (f : Tag → OutFrame) (s : State) :
    (ended l tag f s).engine = s.engine ∧ (ended l tag f s).stamps = s.stamps := by
  cases tag <;> exact ⟨rfl, rfl⟩

/-- A read half that leaves the poison ends the request, and then gives the host write up. -/
theorem mwrReadHalfComplete_givenUp {u : State} {damage : StoredLine} {o : Op} {p : Place} {new : LineData}
    {enables : BitVec 64} (ho : completing s l = some o) (hk : o.kind = .mwr new enables) (hst : FinalRead s l o p damage)
    (hu : (readLine s l p damage).outcome = .mark ∧ u = ended l o.tag (fun t => .wret t .poisonKept) s ∨
      (readLine s l p damage).outcome = .uncorrectable ∧ u = ended l o.tag (fun t => .wret t .poisonKept)
        (requestWriteback l .mark o.overtaken (receiveEvent ⟨l, .maskedWrite, .uncorrectable⟩ s))) :
    exec (.mwrReadHalfComplete l damage) s = .next (hostWriteGivenUp l u) ∧ u.engine.step = s.engine.step ∧
      u.stamps = s.stamps := by
  have hhead := (completing_head ho).1
  rw [mwrReadHalfComplete_final ho hk hst]
  rcases hu with ⟨hout, rfl⟩ | ⟨hout, rfl⟩
  · rw [finishReadHalf_mark new enables hhead hout]
    simp [ended_engine_stamps]
  · rw [finishReadHalf_uncorrectable new enables hhead (readLine_line s l p damage) hout]
    simp [ended_engine_stamps, receiveEvent_step]

end

/-- Settles O38: what the copy read found is kept while a host write stands; the column ends with that write, or the copy write is
issued once no host write is left. -/
theorem hostWriteCancelsCopy : Obligations.HostWriteCancelsCopy := by
  refine ⟨writeStands_iff, fun s st o damage p via n hst hl ho hk hg hw => ?_,
    fun s l st found content o targets n c hst hl hline hg ho hs hc => ?_,
    fun s l st found o t d e hst hl hline hg ho hk ht hs hlist => ?_,
    fun s u l damage st found o d e p hst hl hline hg ho hk hs hu => ?_,
    fun u l st found hst hl hline hg => ⟨hostWriteGivenUp_waits, hostWriteGivenUp_issues hst hl hline hg⟩⟩
  · rw [copyReadComplete_eq damage hst ho hk hg]
    have hline := readLine_line s st.line p damage
    generalize readLine s st.line p damage = d at hline ⊢
    refine ⟨fun content hc => ?_, fun r c hr hm hout hcell => ?_, fun r hr hm hout => ?_⟩
    · have hout : d.outcome = .clean ∨ d.outcome = .mark := hc.imp And.left And.left
      have hcontent : copyContent d = content := by
        rcases hc with ⟨h, rfl⟩ | ⟨h, rfl⟩
        · exact copyContent_data (.inl h)
        · exact copyContent_mark (.inl h)
      rw [handEvent_silent _ _ hout, handMark_other _ _ (by rcases hout with h | h <;> simp [h]),
        afterCopyRead_cancels _ hl rfl rfl hw, hcontent]
    · rw [handEvent_corrected _ _ hout hcell, handMark_other _ _ (by simp [hout]), copyContent_data (.inr hout), hline,
        afterCopyRead_cancels _ hl (by simp) (receiveEvent_engine_migrating hr hm) hw]
    · have he := receiveEvent_engine_migrating (ev := ⟨st.line, .copy, .uncorrectable⟩) hr hm
      rw [handEvent_uncorrectable _ _ hout, handMark_uncorrectable _ _ hout, copyContent_mark (.inr hout), hline,
        afterCopyRead_cancels (s := s) _ hl (by simp) (by simp [he]) hw]
  · obtain ⟨m, marked, he, hspec⟩ := finishWrite_endsColumn targets content (completing_head ho).1
      (awaitedContent_some hst hl hline hg)
    exact ⟨m, marked, (write_complete ho hs hc).trans (congrArg _ he), hspec⟩
  · have hexec := mwrReadHalfIssue_listed ho hk hs hlist
    rw [ht] at hexec
    refine ⟨fun hw => hexec.trans (congrArg _ (hostWriteGivenUp_waits hw)), fun hw => ?_⟩
    exact hexec.trans (congrArg _ (hostWriteGivenUp_issues (s := returned l (.wret t .poisonKept) s) hst hl hline hg hw))
  · obtain ⟨hexec, hstep, hstamps⟩ := mwrReadHalfComplete_givenUp ho hk hs hu
    refine ⟨fun hw => hexec.trans (congrArg _ (hostWriteGivenUp_waits hw)), fun hw => ?_⟩
    rw [hexec, hostWriteGivenUp_issues (hstep.trans hst) hl hline hg hw, hstamps]

end Sys2Proof.Machine
end

section
/-! PROOFS. The check step: its performance, its pass and the completion of the migration (O39). -/

namespace Sys2Proof.Machine

/-! ### Performance and judgement (R152, R157) -/

/-- A check read has completed: its operation leaves the line order, the step ends and the slot is free (R152, R160). -/
def checkReadEnded (s : State) (l : LineAddr) : State :=
  { s with ops := s.ops.eraseP fun o => o.line == l, slot := none, engine := { s.engine with step := none } }

section
variable {s : State} {st : MigStep} {o : Op} {p : Place} {via : Bool} {n : Nat}

theorem checkReadPerform_eq (hst : s.engine.step = some st) (ho : headOp s st.line = some o) (hk : o.kind = .checkRead)
    (hw : o.stage = .waiting) : exec .checkReadPerform s = .next (issueRead st.line (.spare st.dest) true s) := by
  simp only [exec, execCheckReadPerform, stepOp_some hst ho hk, hw, if_true]

theorem checkReadComplete_eq (damage : StoredLine) (hst : s.engine.step = some st) (ho : completing s st.line = some o)
    (hk : o.kind = .checkRead) (hg : o.stage = .reading p via n) :
    exec (.checkReadComplete damage) s = .next (if st.leftover then checkReadEnded s st.line
      else judgeCheck st (readLine s st.line p damage).outcome (checkReadEnded s st.line)) := by
  simp only [exec, execCheckReadComplete, stepOp_some hst ho hk, hg]
  rfl

/-- A check read passes when it is CLEAN or MARK, or UNCORRECTABLE in a marked column (R157). -/
theorem checkPasses_iff (marked : Bool) (out : LineOutcome) : checkPasses marked out = true ↔
    out = .clean ∨ out = .mark ∨ out = .uncorrectable ∧ marked = true := by
  cases out <;> simp [checkPasses]

theorem judgeCheck_passes {s : State} {st : MigStep} {r : Record} {out : LineOutcome} (hr : lineRecord s st.line = some r)
    (h : out = .clean ∨ out = .mark ∨ out = .uncorrectable ∧ lineColumn st.line ∈ s.engine.marked) :
    judgeCheck st out s = passCheck r st.dest s := by
  rw [judgeCheck, hr]
  exact if_pos ((checkPasses_iff _ _).2 (by simpa using h))

theorem judgeCheck_fails {s : State} {st : MigStep} {r : Record} {out : LineOutcome} (hr : lineRecord s st.line = some r)
    (h : out = .corrected ∨ out = .uncorrectable ∧ lineColumn st.line ∉ s.engine.marked) :
    judgeCheck st out s = failAttempt r st.dest s := by
  rw [judgeCheck, hr]
  refine if_neg ?_
  rw [checkPasses_iff]
  rcases h with rfl | ⟨rfl, h⟩ <;> simp [*]

/-- The completion of a check read that passes (R157). -/
theorem checkReadComplete_passes {damage : StoredLine} {r : Record} (hst : s.engine.step = some st)
    (hl : st.leftover = false) (ho : completing s st.line = some o) (hk : o.kind = .checkRead)
    (hg : o.stage = .reading p via n) (hr : lineRecord s st.line = some r)
    (hout : (readLine s st.line p damage).outcome = .clean ∨ (readLine s st.line p damage).outcome = .mark ∨
      (readLine s st.line p damage).outcome = .uncorrectable ∧ lineColumn st.line ∈ s.engine.marked) :
    exec (.checkReadComplete damage) s = .next (passCheck r st.dest (checkReadEnded s st.line)) := by
  rw [checkReadComplete_eq damage hst ho hk hg, if_neg (by simp [hl]),
    judgeCheck_passes (s := checkReadEnded s st.line) hr hout]

/-- The completion of a check read that fails (R159). -/
theorem checkReadComplete_fails {damage : StoredLine} {r : Record} (hst : s.engine.step = some st)
    (hl : st.leftover = false) (ho : completing s st.line = some o) (hk : o.kind = .checkRead)
    (hg : o.stage = .reading p via n) (hr : lineRecord s st.line = some r)
    (hout : (readLine s st.line p damage).outcome = .corrected ∨
      (readLine s st.line p damage).outcome = .uncorrectable ∧ lineColumn st.line ∉ s.engine.marked) :
    exec (.checkReadComplete damage) s = .next (failAttempt r st.dest (checkReadEnded s st.line)) := by
  rw [checkReadComplete_eq damage hst ho hk hg, if_neg (by simp [hl]),
    judgeCheck_fails (s := checkReadEnded s st.line) hr hout]

end

/-- The line's record is found under its key, in any state. -/
theorem lineRecord_eq_lookup {s : State} {l : LineAddr} {r : Record} (hr : lineRecord s l = some r) (u : State) :
    lineRecord u l = lookup u r.key := by
  rw [lineRecord, lookup_key hr]

theorem lookup_checkReadEnded {s : State} {l : LineAddr} {r : Record} (hr : lineRecord s l = some r) :
    lookup (checkReadEnded s l) r.key = some r :=
  (lineRecord_eq_lookup hr _).symm.trans hr

theorem passCheck_within {r : Record} {g : MigSub} (d : SpareIdx) (s : State) (hg : r.migration = some g)
    (h : g.checkCursor + 1 < 128) : passCheck r d s = updateRecord r.key
      (fun r => { r with migration := some { g with checkCursor := g.checkCursor + 1 } }) s := by
  rw [passCheck, hg]
  exact if_neg (by omega)

theorem passCheck_last {r : Record} {g : MigSub} (d : SpareIdx) (s : State) (hg : r.migration = some g)
    (h : g.checkCursor = 127) : passCheck r d s = completeMigration r d s := by
  rw [passCheck, hg]
  exact if_pos (by omega)

/-! ### The completion before the next head is taken (R162) -/

/-- The state in which the migration of `r` onto `d` has completed, before the next head is taken. -/
def completedBase (r : Record) (d : SpareIdx) (s : State) : State :=
  { s with
    engine := { s.engine with marked := [] }
    spares := match r.homeSpare with
      | some h => (setSpare (keyPos r.key) h .burned s).spares
      | none => s.spares
    table := s.table.map fun x => if x.key = r.key then x.complete d s.params.autoPersist else x
    counters := { s.counters with
      sparesBurned := if r.homeSpare.isSome then min (s.counters.sparesBurned + 1) 4294967295
        else s.counters.sparesBurned
      migrationsDone := min (s.counters.migrationsDone + 1) 4294967295 }
    attn := s.attn.raise .spareDone }

theorem burn_eq (p : BankPos) (i : SpareIdx) (s : State) : burn p i s = { s with
    spares := (setSpare p i .burned s).spares
    counters := { s.counters with sparesBurned := min (s.counters.sparesBurned + 1) 4294967295 } } := rfl

/-- What R162 does, in the model's order, before the engine goes on. -/
theorem completeMigration_eq (r : Record) (d : SpareIdx) (s : State) :
    completeMigration r d s = startPersist (serveQueue (completedBase r d s)) := by
  unfold completeMigration
  refine congrArg (fun s => startPersist (serveQueue s)) ?_
  unfold completedBase
  cases r.homeSpare with
  | none => rfl
  | some h =>
    simp only [burn_eq, Option.isSome_some, if_true]
    rfl

section
variable {r : Record} {d : SpareIdx} {s : State}

theorem completedBase_spares_none (h : r.homeSpare = none) : (completedBase r d s).spares = s.spares := by
  simp only [completedBase, h]

/-- The old home is BURNED, and no other spare is touched. -/
theorem completedBase_spares_some {i : SpareIdx} (h : r.homeSpare = some i) :
    spareState (completedBase r d s).spares (keyPos r.key) i = .burned ∧
    ∀ (p : BankPos) (j : SpareIdx), (p, j) ≠ (keyPos r.key, i) →
      spareState (completedBase r d s).spares p j = spareState s.spares p j := by
  simp only [completedBase, h]
  exact ⟨spareState_setSpare_self _ _ _ _, fun p j hne => spareState_setSpare_ne _ hne⟩

theorem completedBase_lookup (hr : lookup s r.key = some r) :
    lookup (completedBase r d s) r.key = some (r.complete d s.params.autoPersist) := by
  have ht : lookup (completedBase r d s) r.key =
      lookup (updateRecord r.key (Record.complete d s.params.autoPersist) s) r.key := lookup_congr rfl _
  rw [ht, lookup_updateRecord _ _ _ (Record.complete d s.params.autoPersist) fun _ h => h, if_pos rfl, hr, Option.map_some]

end

/-! ### The persist engine takes up work, or rests (R172, R174) -/

theorem startPersist_loading {s : State} (h : s.phase = .loading) : startPersist s = s := by
  rw [startPersist, if_neg]
  simp [h]

/-- A LOADING part begins no program, and neither does a busy persist engine. -/
theorem startPersist_rests {s : State} (h : s.phase = .loading ∨ s.persist.program.isSome = true) : startPersist s = s := by
  rcases h with h | h
  · exact startPersist_loading h
  · obtain ⟨g, hg⟩ := Option.isSome_iff_exists.1 h
    exact startPersist_busy hg

theorem startPersist_workTakenUp {s : State} (hp : s.phase = .running) (hidle : s.persist.program = none) :
    WorkTakenUp s (startPersist s) := by
  refine ⟨fun hnone => ?_, fun item hitem => ⟨fun n hn => ?_, fun hfull => ?_⟩⟩
  · rw [startPersist, chooseItem_of_nextWork hnone]
    exact ite_self s
  · rw [startPersist_begins hp hidle (chooseItem_of_nextWork hitem) hn]
    rfl
  · rw [GivenUp, startPersist_full hp hidle (chooseItem_of_nextWork hitem) hfull]
    rfl

/-- Records change only where the work is given up, in a full store (R174). -/
theorem startPersist_table {s : State}
    (h : s.phase = .loading ∨ s.persist.program.isSome = true ∨ ∃ n : Fin 64, s.store[n] = .empty) :
    (startPersist s).table = s.table := by
  rw [← or_assoc] at h
  rcases h with h | ⟨n, hn⟩
  · rw [startPersist_rests h]
  · obtain ⟨m, hm⟩ : ∃ m, lowestEmpty s.store = some m := by
      rw [← Option.isSome_iff_exists, lowestEmpty, List.find?_isSome]
      exact ⟨n, List.mem_finRange n, by simpa using hn⟩
    simp only [startPersist, beginProgram, hm]
    (repeat' split) <;> rfl

/-! ### The migration completed (R162) -/

section
variable {r : Record} {d : SpareIdx} {s : State}

/-- The completion changes the records, the spares, the queue, the engine, the persist engine, the counters and the flags. -/
theorem completeMigration_eq_frame (hstep : s.engine.step = none) : completeMigration r d s = { s with
    engine := ⟨[], none⟩
    table := (completeMigration r d s).table, spares := (completeMigration r d s).spares
    queue := (completeMigration r d s).queue, persist := (completeMigration r d s).persist
    counters := (completeMigration r d s).counters, attn := (completeMigration r d s).attn } := by
  have hengine : (completeMigration r d s).engine = ⟨[], none⟩ := by
    rw [completeMigration_eq]
    simp only [startPersist_frame, serveQueue]
    rw [(takeHeads_engine _ _).2 rfl, ← hstep]
    rfl
  have hframe := completeMigration_frame r d s
  generalize completeMigration r d s = u at hengine hframe
  cases s
  cases u
  simp_all

theorem completeMigration_counters : (completeMigration r d s).counters = { s.counters with
    sparesBurned := if r.homeSpare.isSome then min (s.counters.sparesBurned + 1) 4294967295
      else s.counters.sparesBurned
    migrationsDone := min (s.counters.migrationsDone + 1) 4294967295 } := by
  rw [completeMigration_eq]
  simp [completedBase]

theorem completeMigration_sparesBurned :
    (∀ h : SpareIdx, r.homeSpare = some h →
      (completeMigration r d s).counters.sparesBurned = min (s.counters.sparesBurned + 1) 4294967295) ∧
    (r.homeSpare = none → (completeMigration r d s).counters.sparesBurned = s.counters.sparesBurned) := by
  rw [completeMigration_counters]
  exact ⟨fun h hh => by simp [hh], fun hh => by simp [hh]⟩

theorem completeMigration_migrationsDone :
    (completeMigration r d s).counters.migrationsDone = min (s.counters.migrationsDone + 1) 4294967295 := by
  rw [completeMigration_counters]

theorem completeMigration_spareDone : (completeMigration r d s).attn.isSet .spareDone = true := by
  rw [completeMigration_eq]
  exact startPersist_isSet _ _ (takeHeads_isSet _ _ _ (by simp [completedBase, raise_isSet]))

theorem completeMigration_burned {h : SpareIdx} (hh : r.homeSpare = some h) :
    spareState (completeMigration r d s).spares (keyPos r.key) h = .burned := by
  have hburned := (completedBase_spares_some (d := d) (s := s) hh).1
  rw [completeMigration_eq]
  simp only [startPersist_frame]
  rw [serveQueue, takeHeads_spares _ _ _ _ (by simp [hburned]), hburned]

/-- The record on its new home, whatever the queue and the persist engine do next. -/
theorem completeMigration_record (hr : lookup s r.key = some r) : ∃ r' : Record,
    lookup (completeMigration r d s) r.key = some r' ∧ r'.homeSpare = some d ∧ r'.weight = 0 ∧ r'.signature = none ∧
    r'.persisted = false ∧ r'.corrections = r.corrections ∧ r'.poison = r.poison ∧ r'.overflow = r.overflow ∧
    r'.pinned = r.pinned := by
  have hkeep := startPersist_lookup (fun r : Record => (r.homeSpare, r.weight, r.signature, r.persisted, r.corrections,
    r.poison, r.overflow, r.pinned)) (fun _ => rfl) (serveQueue (completedBase r d s)) r.key
  rw [keeps_serveQueue (fun _ _ _ _ _ => rfl), completedBase_lookup hr, Option.map_some, ← completeMigration_eq] at hkeep
  obtain ⟨r', hr', heq⟩ := Option.map_eq_some_iff.1 hkeep
  simp only [Prod.mk.injEq] at heq
  exact ⟨r', hr', heq⟩

/-- A record that does not wait in the queue is SPARED when its migration has completed. -/
theorem completeMigration_spared (hr : lookup s r.key = some r) (hq : r.key ∉ s.queue.urgent ++ s.queue.normal)
    {r' : Record} (hr' : lookup (completeMigration r d s) r.key = some r') :
    r'.state = .spared ∧ r'.destSpare = none ∧ r'.migration = none ∧ r'.urgent = false := by
  have hserved : lookup (serveQueue (completedBase r d s)) r.key = some (r.complete d s.params.autoPersist) := by
    rw [serveQueue, takeHeads_lookup _ (completedBase r d s) _ hq, completedBase_lookup hr]
  obtain ⟨r'', hr'', hcase⟩ := startPersist_record hserved
  rw [← completeMigration_eq, hr'] at hr''
  cases hr''
  rcases hcase with rfl | ⟨rfl, -⟩ <;> exact ⟨rfl, rfl, rfl, rfl⟩

/-- The record's wish to be recorded follows auto-persist, unless the store is found full. -/
theorem completeMigration_persistWanted (hr : lookup s r.key = some r)
    (h : s.phase = .loading ∨ s.persist.program.isSome = true ∨ ∃ n : Fin 64, s.store[n] = .empty)
    {r' : Record} (hr' : lookup (completeMigration r d s) r.key = some r') : r'.persistWanted = s.params.autoPersist := by
  have hserved : s.phase = (serveQueue (completedBase r d s)).phase ∧ s.persist = (serveQueue (completedBase r d s)).persist ∧
      s.store = (serveQueue (completedBase r d s)).store := by
    simp [completedBase]
  obtain ⟨hphase, hpersist, hstore⟩ := hserved
  rw [hphase, hpersist, hstore] at h
  rw [completeMigration_eq, lookup_congr (startPersist_table h)] at hr'
  have hkeep := keeps_serveQueue (g := Record.persistWanted) (fun _ _ _ _ _ => rfl) (completedBase r d s) r.key
  rw [hr', completedBase_lookup hr] at hkeep
  exact Option.some_inj.1 hkeep

/-- With an empty queue, what is left is the persist engine's to do (R172, R174). -/
theorem completeMigration_emptyQueue (hq : s.queue = ⟨[], []⟩) :
    (completeMigration r d s).queue = s.queue ∧
    (s.phase = .loading ∨ s.persist.program.isSome = true → completeMigration r d s = completedBase r d s) ∧
    (s.phase = .running → s.persist.program = none → WorkTakenUp (completedBase r d s) (completeMigration r d s)) := by
  have hserved : serveQueue (completedBase r d s) = completedBase r d s := serveQueue_empty hq
  rw [completeMigration_eq, hserved]
  exact ⟨by simp [completedBase], startPersist_rests (s := completedBase r d s),
    startPersist_workTakenUp (s := completedBase r d s)⟩

end

/-- Settles O39: a completed check read is a leftover step, a pass within the row, or the completion of the migration. -/
theorem checkStepPerformed : Obligations.CheckStepPerformed := by
  refine fun s st o hst hk => ⟨fun ho hw => by rw [checkReadPerform_eq hst ho hk hw, issueRead_eq],
    fun damage p via n ho hg => ⟨fun hl => ?_, fun r g hl hr hmig hout => ⟨fun hlt => ?_, fun hlast => ?_⟩⟩⟩
  · rw [checkReadComplete_eq damage hst ho hk hg, if_pos hl]
    rfl
  · rw [checkReadComplete_passes hst hl ho hk hg hr hout, passCheck_within _ _ hmig hlt]
    rfl
  · have hjudged := checkReadComplete_passes hst hl ho hk hg hr hout
    rw [passCheck_last _ _ hmig hlast] at hjudged
    have hrec := lookup_checkReadEnded hr
    have hline := lineRecord_eq_lookup hr
    obtain ⟨r', hr', hhome, hweight, hsig, hpersisted, hcorr, hpoison, hover, hpinned⟩ :=
      completeMigration_record (d := st.dest) hrec
    obtain ⟨hburned, hkept⟩ := completeMigration_sparesBurned (r := r) (d := st.dest) (s := checkReadEnded s st.line)
    refine ⟨_, hjudged, ⟨r', (hline _).trans hr', hhome, hweight, hsig, hpersisted, hcorr, hpoison, hover, hpinned,
        fun hq => completeMigration_spared hrec hq hr'⟩,
      fun h hh => ⟨completeMigration_burned hh, hburned h hh⟩, hkept, completeMigration_migrationsDone,
      completeMigration_spareDone, completeMigration_eq_frame rfl,
      ⟨_, completedBase r st.dest (checkReadEnded s st.line), rfl, completedBase_spares_none (d := st.dest),
        fun h hh => completedBase_spares_some (d := st.dest) hh, completeMigration_eq _ _ _,
        completeMigration_emptyQueue (s := checkReadEnded s st.line)⟩,
      fun r' hr' hnotfull => completeMigration_persistWanted hrec hnotfull ((hline _).symm.trans hr')⟩

end Sys2Proof.Machine
end

section
/-! PROOFS. A check read that fails ends the attempt (O40). -/

namespace Sys2Proof.Machine

/-- A failed attempt leaves an empty marked-column set (R159). -/
theorem failAttempt_marked (r : Record) (d : SpareIdx) (s : State) : (failAttempt r d s).engine.marked = [] := by
  obtain ⟨-, -, -, -, -, -, -, hmarked, -⟩ := failedBase_spec r d s
  rcases failAttempt_cases r d s with ⟨d', n, -, h⟩ | h
  · simp [h, startAttempt]
  · have hcondemned : (condemn r.key (failedBase r d s)).engine.marked = [] := by simpa using hmarked
    rw [h, serveQueue]
    simp only [startPersist_frame, (takeHeads_engine _ _).2 hcondemned, hcondemned]

/-- With no step in flight a failed attempt leaves the engine at rest and the slot as it was. -/
theorem failAttempt_no_step {r : Record} {d : SpareIdx} {s : State} (h : s.engine.step = none) :
    (failAttempt r d s).engine = ⟨[], none⟩ ∧ (failAttempt r d s).slot = s.slot := by
  obtain ⟨hstep, hslot⟩ := (failAttempt_stepOrphaned r d s).1 h
  refine ⟨?_, hslot⟩
  have hmarked := failAttempt_marked r d s
  generalize (failAttempt r d s).engine = e at hstep hmarked
  cases e
  cases hstep
  cases hmarked
  rfl

/-- Settles O40: a failed check read is a failed attempt of a record whose step has ended. -/
theorem failedAttemptRetriesOrCondemns : Obligations.FailedAttemptRetriesOrCondemns := by
  intro s st o damage p via n r g hst hl ho hk hg hr hmig _ hout
  have hrec := lookup_checkReadEnded hr
  have hline := lineRecord_eq_lookup hr
  obtain ⟨hengine, hslot⟩ := failAttempt_no_step (r := r) (d := st.dest) (s := checkReadEnded s st.line) rfl
  have hfailed := (failAttempt_spec st.dest hrec hmig).1
  have ⟨hburned, hcounters, _, hretry, hcondemned⟩ := hfailed
  have hframe := failAttempt_eq_frame r st.dest (checkReadEnded s st.line)
  rw [hengine, hslot] at hframe
  refine ⟨_, checkReadComplete_fails hst hl ho hk hg hr hout, hburned, by rw [hcounters]; rfl, hfailed, hframe,
    fun d hlt hne hfree hlow => ?_, fun hcase hq => ?_⟩
  · obtain ⟨hassigned, hqueue, -, r', hr', hcases⟩ := hretry d hlt hne hfree hlow
    refine ⟨hassigned, hqueue, r', (hline _).trans hr', ?_⟩
    rcases hcases with rfl | ⟨rfl, -⟩ <;> exact ⟨rfl, rfl, rfl, rfl, rfl⟩
  · obtain ⟨hflag, r', hr', hcases⟩ := hcondemned hcase hq
    refine ⟨hflag, r', (hline _).trans hr', ?_⟩
    rcases hcases with rfl | ⟨rfl, -⟩ <;> exact ⟨rfl, rfl, rfl, rfl, rfl, rfl⟩

end Sys2Proof.Machine
end

section
/-! PROOFS. The slots of the repair store: what a command leaves of them and of the program in flight. -/

namespace Sys2Proof.Machine

/-! ### The store and the program in flight as a relation of two states

A command but for the reset and the completion of a program writes no slot, and a program that it begins is in the lowest EMPTY
one (R172). As in the proof of O55, each operation is shown to keep to that once, and the commands are chains of operations. -/

/-- No slot differs, and a program in flight in `t` is the one of `s` or is in the lowest EMPTY slot. -/
structure SlotsKept (s t : State) : Prop where
  store : t.store = s.store
  program : ∀ p : Program, t.persist.program = some p → s.persist.program = some p ∨ LowestEmpty s.store p.slot

theorem SlotsKept.refl (s : State) : SlotsKept s s := ⟨rfl, fun _ => .inl⟩

theorem SlotsKept.trans {s t u : State} (h : SlotsKept s t) (k : SlotsKept t u) : SlotsKept s u :=
  ⟨k.store.trans h.store, fun p hp => (k.program p hp).elim (h.program p) fun he => .inr (h.store ▸ he)⟩

/-- Neither a slot nor the program in flight differs. -/
def StoreSame (s t : State) : Prop := t.store = s.store ∧ t.persist.program = s.persist.program

theorem StoreSame.kept {s t : State} (h : StoreSame s t) : SlotsKept s t := ⟨h.1, fun _ hp => .inl (h.2 ▸ hp)⟩

/-- The slot that `lowestEmpty` finds is the one that R172 names. -/
theorem lowestEmpty_spec {v : Vector StoreSlot 64} {n : Fin 64} (h : lowestEmpty v = some n) : LowestEmpty v n := by
  obtain ⟨hn, i, hi, rfl, hlow⟩ := List.find?_eq_some_iff_getElem.1 h
  refine ⟨by simpa using hn, fun m hm => ?_⟩
  have hlt : m.val < i := by simpa [Fin.lt_def] using hm
  simpa using hlow m.val hlt

/-- A programmed slot leaves the EMPTY ones, and no other does or joins them. -/
theorem set_eq_empty_iff {v : Vector StoreSlot 64} {x : StoreSlot} {i n : Fin 64} (hx : x ≠ .empty) :
    (v.set i.val x)[n] = .empty ↔ n ≠ i ∧ v[n] = .empty := by
  by_cases hn : n = i
  · subst hn
    simp [hx]
  · have hne : i.val ≠ n.val := fun e => hn (Fin.ext e.symm)
    simp [Vector.getElem_set_ne, hne, hn]

/-! ### Beginnings of programs (R171, R172, R174) -/

/-- A program that begins is in the lowest EMPTY slot. -/
theorem beginProgram_lowest {item : StoreItem} {n : Nat} {s : State} {p : Program}
    (h : (beginProgram item n s).persist.program = some p) : LowestEmpty s.store p.slot := by
  unfold beginProgram at h
  split at h
  · next m hm =>
    cases h
    exact lowestEmpty_spec hm
  · cases h

theorem startPersist_slotsKept (s : State) : SlotsKept s (startPersist s) := by
  refine ⟨by simp, fun p hp => ?_⟩
  unfold startPersist at hp
  split at hp
  · split at hp
    · exact .inr (beginProgram_lowest hp)
    · exact .inl hp
  · exact .inl hp

/-! ### Attempts and completions of migrations (R158, R159, R162) -/

theorem failAttempt_slotsKept (r : Record) (d : SpareIdx) (s : State) : SlotsKept s (failAttempt r d s) := by
  obtain ⟨-, -, -, -, -, hstore, -, -, hpersist, -⟩ := failedBase_spec r d s
  rw [failAttempt_eq]
  refine SlotsKept.trans (StoreSame.kept ?_) (startPersist_slotsKept _)
  split <;> simp [StoreSame, hstore, hpersist]

theorem reserve_slotsKept (l : LineAddr) (p : Place) (s : State) : SlotsKept s (reserve l p s) := by
  have hreread (t : State) : SlotsKept t (issueReread l (homePlace (lineRecord t l)) t) :=
    StoreSame.kept (by simp [StoreSame])
  cases p with
  | hostRow => exact hreread s
  | spare d =>
    refine SlotsKept.trans ?_ (hreread (reportFailure l d s))
    unfold reportFailure
    split
    · split
      · exact failAttempt_slotsKept _ d s
      · exact .refl s
    · exact .refl s

theorem completeMigration_slotsKept (r : Record) (d : SpareIdx) (s : State) : SlotsKept s (completeMigration r d s) := by
  rw [completeMigration_eq]
  exact SlotsKept.trans (StoreSame.kept (by simp [StoreSame, completedBase])) (startPersist_slotsKept _)

theorem judgeCheck_slotsKept (st : MigStep) (out : LineOutcome) (s : State) : SlotsKept s (judgeCheck st out s) := by
  unfold judgeCheck passCheck
  split
  · split
    · split
      · split
        · exact completeMigration_slotsKept _ _ s
        · exact StoreSame.kept (by simp [StoreSame])
      · exact .refl s
    · exact failAttempt_slotsKept _ _ s
  · exact .refl s

/-! ### The management port (R163, R164, R177, R181) -/

theorem setPort_slotsKept (s : State) (p : Port) : SlotsKept s (s.setPort p) := StoreSame.kept (by simp [StoreSame])

theorem createRecord_storeSame {k : RowKey} {g : Origin} {change : Record → Record} {s t : State} {r : Record}
    (h : createRecord k g change s = some (r, t)) : StoreSame s t := by
  obtain ⟨_, _, -, -, rfl⟩ := createRecord_spec h
  simp [StoreSame]

theorem onRecord_slotsKept {k : RowKey} {f : Record → State → State × Answer} {s : State}
    (hf : ∀ r : Record, SlotsKept s (f r s).1) : SlotsKept s (onRecord k f s).1 := by
  unfold onRecord
  split
  · exact hf _
  · exact .refl s

theorem watchRow_slotsKept (k : RowKey) (s : State) : SlotsKept s (watchRow k s).1 := by
  unfold watchRow
  split
  · exact StoreSame.kept (by simp [StoreSame])
  · split
    · next h => exact (createRecord_storeSame h).kept
    · exact .refl s

theorem enqueue_slotsKept (k : RowKey) (urgent : Bool) (s : State) : SlotsKept s (enqueue k urgent s) :=
  StoreSame.kept (by simp [StoreSame])

theorem forceSpareRow_slotsKept (k : RowKey) (s : State) : SlotsKept s (forceSpareRow k s).1 := by
  unfold forceSpareRow
  split
  · (repeat' split) <;> exact StoreSame.kept (by simp [StoreSame, forceQueue])
  · split
    · next h => exact (createRecord_storeSame h).kept.trans (enqueue_slotsKept k true _)
    · exact .refl s

theorem abortRow_slotsKept (k : RowKey) (s : State) : SlotsKept s (abortRow k s).1 := by
  refine onRecord_slotsKept fun r => StoreSame.kept ?_
  cases r.state with
  | migrating => cases hd : r.destSpare <;> simp [StoreSame, abortMigrating, hd]
  | _ => simp [StoreSame]

theorem persistRow_slotsKept (k : RowKey) (s : State) : SlotsKept s (persistRow k s).1 := by
  refine onRecord_slotsKept fun r => ?_
  split
  · exact .refl s
  · split
    · exact SlotsKept.trans (StoreSame.kept (by simp [StoreSame])) (startPersist_slotsKept _)
    · exact .refl s

theorem setParameter_slotsKept (id : ParamId) (v : BitVec 32) (s : State) : SlotsKept s (setParameter id v s).1 := by
  unfold setParameter
  dsimp only
  split
  · exact .refl s
  · cases id <;> exact StoreSame.kept (by simp [StoreSame, paramChanged])

/-- A command's take-up writes no slot (R181). -/
theorem takeUp_slotsKept (c : PortCommand) (s : State) : SlotsKept s (takeUp c s).1 := by
  cases c with
  | findRecord k => exact onRecord_slotsKept fun _ => .refl s
  | readRecord n =>
    simp only [takeUp, readRecord]
    split <;> exact .refl s
  | watchRow k => exact watchRow_slotsKept k s
  | pin k => exact onRecord_slotsKept fun _ => StoreSame.kept (by simp [StoreSame])
  | unpin k => exact onRecord_slotsKept fun _ => StoreSame.kept (by simp [StoreSame])
  | release k =>
    refine onRecord_slotsKept fun r => StoreSame.kept ?_
    split <;> simp [StoreSame]
  | forceSpare k => exact forceSpareRow_slotsKept k s
  | abortMigration k => exact abortRow_slotsKept k s
  | persist k => exact persistRow_slotsKept k s
  | setParam id v => exact setParameter_slotsKept id v s
  | clearCounters => exact StoreSame.kept (by simp [StoreSame, takeUp, clearAllCounters])
  | ackAttention f => exact StoreSame.kept (by simp [StoreSame, takeUp, acknowledge])
  | setAttentionMask e => exact StoreSame.kept (by simp [StoreSame, takeUp, enableFlags])
  | _ => exact .refl s

theorem checkAndDispatch_slotsKept (code : Byte) (args : List Byte) (prompt : Bool) (s : State) :
    SlotsKept s (checkAndDispatch code args prompt s) := by
  unfold checkAndDispatch
  split
  · exact setPort_slotsKept s _
  · split
    · exact setPort_slotsKept s _
    · split
      · exact setPort_slotsKept s _
      · split
        · exact setPort_slotsKept s _
        · split
          · exact (takeUp_slotsKept _ s).trans (setPort_slotsKept _ _)
          · exact setPort_slotsKept s _

theorem exec_transaction_slotsKept {c : Instr} {code : Byte} {args : List Byte} {tail : Fin 8} {prompt : Bool} {s t : State}
    (hc : transaction c = some (code, args, tail, prompt)) (h : exec c s = .next t) : SlotsKept s t := by
  rcases exec_transaction hc s with he | he | he <;> cases he.symm.trans h
  · exact StoreSame.kept (by simp [StoreSame])
  · exact StoreSame.kept (by simp [StoreSame])
  · have hshift : SlotsKept s (shiftOut (commandOut args.length tail) s) := setPort_slotsKept s _
    unfold commandTransaction
    dsimp only
    split
    · exact hshift.trans ((setPort_slotsKept _ _).trans (checkAndDispatch_slotsKept _ _ _ _))
    · exact hshift

theorem execCommandTakeUp_slotsKept {s t : State} (h : execCommandTakeUp s = .next t) : SlotsKept s t := by
  obtain rfl := Host.Outcome.next.inj h
  split
  · next a _ =>
    have htake := (setPort_slotsKept s { s.port with awaiting := none }).trans (takeUp_slotsKept a.command _)
    dsimp only
    split
    · exact htake
    · exact htake.trans (setPort_slotsKept _ _)
  · exact .refl s

end Sys2Proof.Machine
end

section
/-! PROOFS. A slot of the repair store changes only by its program, and never becomes EMPTY again (O59). -/

namespace Sys2Proof.Machine

/-! ### Commands that leave the store and its engine alone -/

/-- The load's two slots, the gate's pins and timers, and the link's resets. -/
theorem load_gate_and_link_slotsKept {c : Instr} {s t : State}
    (hc : c ∈ [.loadRepairSlot, .loadBadSpareSlot, .holdNAssertion, .holdNDeassertion, .holdTimerExpiry, .dwellTimerExpiry,
      .paceTimerExpiry, .resetBegin, .resetEnd])
    (h : exec c s = .next t) : SlotsKept s t := by
  simp only [List.mem_cons, List.not_mem_nil, or_false] at hc
  refine StoreSame.kept ?_
  rcases hc with rfl | rfl | rfl | rfl | rfl | rfl | rfl | rfl | rfl <;> obtain rfl := Host.Outcome.next.inj h <;>
    (repeat' split) <;> simp [StoreSame]

theorem execBadFrame_slotsKept (cause : BadFrameCause) {s t : State} (h : execBadFrame cause s = .next t) :
    SlotsKept s t := by
  obtain rfl := Host.Outcome.next.inj h
  refine StoreSame.kept ?_
  split <;> simp [StoreSame]

theorem exec_request_slotsKept {c : Instr} {tag : Tag} {taken : State → State} (hc : requestTaken c = some (tag, taken))
    {s t : State} (h : exec c s = .next t) : SlotsKept s t := by
  have htaken : StoreSame s (reportOccupancy (taken s)) := by
    unfold requestTaken at hc
    split at hc <;> cases hc <;> simp [StoreSame]
  cases (exec_request hc s).symm.trans h
  refine StoreSame.kept ?_
  unfold arrive
  split
  · split
    · simp [StoreSame]
    · exact htaken
  all_goals exact ⟨rfl, rfl⟩

/-- The steps of a line's host requests, but for the reads that may be served again. -/
theorem host_request_slotsKept {c : Instr} {l : LineAddr} {s t : State}
    (hc : c ∈ [.rdIssue l, .wrIssue l, .wrWriteComplete l, .mwrReadHalfIssue l, .mwrWriteHalfComplete l])
    (h : exec c s = .next t) : SlotsKept s t := by
  simp only [List.mem_cons, List.not_mem_nil, or_false] at hc
  refine StoreSame.kept ?_
  rcases hc with rfl | rfl | rfl | rfl | rfl <;> obtain rfl := Host.Outcome.next.inj h <;>
    (repeat' first | split | (dsimp only; split)) <;> simp [StoreSame]

/-- The grant, the background operations and the migration steps, but for the reads that may end an attempt. -/
theorem background_slotsKept {c : Instr} {damage : StoredLine} {s t : State}
    (hc : c ∈ [.backgroundGrant, .writebackPerform, .writebackComplete, .verifyReadPerform, .patrolLineReadPerform,
      .patrolLineReadComplete damage, .copyReadPerform, .copyReadComplete damage, .copyWriteComplete, .checkReadPerform])
    (h : exec c s = .next t) : SlotsKept s t := by
  simp only [List.mem_cons, List.not_mem_nil, or_false] at hc
  refine StoreSame.kept ?_
  rcases hc with rfl | rfl | rfl | rfl | rfl | rfl | rfl | rfl | rfl | rfl <;> obtain rfl := Host.Outcome.next.inj h <;>
    (repeat' split) <;> simp [StoreSame]

/-! ### Commands that may begin a program -/

theorem execLoadCompletion_slotsKept {s t : State} (h : execLoadCompletion s = .next t) : SlotsKept s t := by
  obtain rfl := Host.Outcome.next.inj h
  split
  · exact SlotsKept.trans (StoreSame.kept (by simp [StoreSame])) (startPersist_slotsKept _)
  · exact .refl s

theorem execRdMediaReadComplete_slotsKept (l : LineAddr) (damage : StoredLine) {s t : State}
    (h : execRdMediaReadComplete l damage s = .next t) : SlotsKept s t := by
  obtain rfl := Host.Outcome.next.inj h
  have hfinish (o : Op) (d : Decode) : SlotsKept s (finishRead l o d s) := StoreSame.kept (by simp [StoreSame])
  split
  · split
    · dsimp only
      split
      · exact reserve_slotsKept l _ s
      · exact hfinish _ _
    · exact hfinish _ _
    · exact .refl s
  · exact .refl s

theorem execMwrReadHalfComplete_slotsKept (l : LineAddr) (damage : StoredLine) {s t : State}
    (h : execMwrReadHalfComplete l damage s = .next t) : SlotsKept s t := by
  obtain rfl := Host.Outcome.next.inj h
  have hfinish (o : Op) (data : LineData) (e : BitVec 64) (d : Decode) : SlotsKept s (finishReadHalf l o data e d s) :=
    StoreSame.kept (by simp [StoreSame])
  split
  · split
    · dsimp only
      split
      · exact reserve_slotsKept l _ s
      · exact hfinish _ _ _ _
    · exact hfinish _ _ _ _
    · exact .refl s
  · exact .refl s

theorem execVerifyReadComplete_slotsKept (damage : StoredLine) {s t : State}
    (h : execVerifyReadComplete damage s = .next t) : SlotsKept s t := by
  obtain rfl := Host.Outcome.next.inj h
  have hfinish (l : LineAddr) (o : Op) (d : Decode) : SlotsKept s (finishVerify l o d s) :=
    StoreSame.kept (by simp [StoreSame])
  split
  · split
    · split
      · dsimp only
        split
        · exact reserve_slotsKept _ _ s
        · exact hfinish _ _ _
      · exact hfinish _ _ _
      · exact .refl s
    · exact .refl s
  · exact .refl s

theorem execCheckReadComplete_slotsKept (damage : StoredLine) {s t : State}
    (h : execCheckReadComplete damage s = .next t) : SlotsKept s t := by
  obtain rfl := Host.Outcome.next.inj h
  split
  · next st o _ =>
    have hend : SlotsKept s (endStep (leaveOrder st.line s)) := StoreSame.kept (by simp [StoreSame])
    split
    · dsimp only
      split
      · exact hend
      · exact hend.trans (judgeCheck_slotsKept _ _ _)
    · exact .refl s
  · exact .refl s

/-- Every command but POWER_ON_RESET and PERSIST_PROGRAM_COMPLETE. -/
theorem exec_slotsKept {c : Instr} (hreset : ∀ lost held : Bool, c ≠ .powerOnReset lost held)
    (hprogram : ∀ ok : Bool, c ≠ .persistProgramComplete ok) {s t : State} (h : exec c s = .next t) : SlotsKept s t := by
  cases c with
  | powerOnReset lost held => exact absurd rfl (hreset lost held)
  | persistProgramComplete ok => exact absurd rfl (hprogram ok)
  | loadRepairSlot => exact load_gate_and_link_slotsKept (by simp) h
  | loadBadSpareSlot => exact load_gate_and_link_slotsKept (by simp) h
  | loadCompletion => exact execLoadCompletion_slotsKept h
  | holdNAssertion => exact load_gate_and_link_slotsKept (by simp) h
  | holdNDeassertion => exact load_gate_and_link_slotsKept (by simp) h
  | holdTimerExpiry => exact load_gate_and_link_slotsKept (by simp) h
  | dwellTimerExpiry => exact load_gate_and_link_slotsKept (by simp) h
  | paceTimerExpiry => exact load_gate_and_link_slotsKept (by simp) h
  | resetBegin => exact load_gate_and_link_slotsKept (by simp) h
  | resetEnd => exact load_gate_and_link_slotsKept (by simp) h
  | badFrame cause => exact execBadFrame_slotsKept cause h
  | rd tag line => exact exec_request_slotsKept rfl h
  | wr tag line data => exact exec_request_slotsKept rfl h
  | mwr tag line data enables => exact exec_request_slotsKept rfl h
  | rdIssue line => exact host_request_slotsKept (l := line) (by simp) h
  | rdMediaReadComplete line damage => exact execRdMediaReadComplete_slotsKept line damage h
  | wrIssue line => exact host_request_slotsKept (l := line) (by simp) h
  | wrWriteComplete line => exact host_request_slotsKept (l := line) (by simp) h
  | mwrReadHalfIssue line => exact host_request_slotsKept (l := line) (by simp) h
  | mwrReadHalfComplete line damage => exact execMwrReadHalfComplete_slotsKept line damage h
  | mwrWriteHalfComplete line => exact host_request_slotsKept (l := line) (by simp) h
  | backgroundGrant => exact background_slotsKept (damage := 0) (by simp) h
  | writebackPerform => exact background_slotsKept (damage := 0) (by simp) h
  | writebackComplete => exact background_slotsKept (damage := 0) (by simp) h
  | verifyReadPerform => exact background_slotsKept (damage := 0) (by simp) h
  | verifyReadComplete damage => exact execVerifyReadComplete_slotsKept damage h
  | patrolLineReadPerform => exact background_slotsKept (damage := 0) (by simp) h
  | patrolLineReadComplete damage => exact background_slotsKept (damage := damage) (by simp) h
  | copyReadPerform => exact background_slotsKept (damage := 0) (by simp) h
  | copyReadComplete damage => exact background_slotsKept (damage := damage) (by simp) h
  | copyWriteComplete => exact background_slotsKept (damage := 0) (by simp) h
  | checkReadPerform => exact background_slotsKept (damage := 0) (by simp) h
  | checkReadComplete damage => exact execCheckReadComplete_slotsKept damage h
  | responseTransaction n tail =>
    obtain rfl := Host.Outcome.next.inj h
    exact StoreSame.kept (by simp [StoreSame])
  | commandTakeUp => exact execCommandTakeUp_slotsKept h
  | _ => exact exec_transaction_slotsKept rfl h

/-! ### The program in flight comes to its end (R172, R173, R176) -/

section
variable {p : Program} {s : State}

/-- The item is settled, its slot VALID and the engine idle (R173). -/
def settledBase (p : Program) (s : State) : State :=
  settleItem p.item ((s.setStore (s.store.set p.slot.val (.valid p.item))).setPersist { s.persist with program := none })

/-- The item is dropped after its third slot, BURNED, and the engine is idle (R173). -/
def droppedBase (p : Program) (s : State) : State :=
  dropItem p.item (raise .storeFail
    ((s.setStore (s.store.set p.slot.val .burned)).setPersist { s.persist with program := none }))

theorem completeProgram_verified : completeProgram p true s = startPersist (settledBase p s) := rfl

theorem completeProgram_retry (h : p.tries < 3) :
    completeProgram p false s = beginProgram p.item (p.tries + 1) (s.setStore (s.store.set p.slot.val .burned)) := if_pos h

theorem completeProgram_dropped (h : 3 ≤ p.tries) : completeProgram p false s = startPersist (droppedBase p s) :=
  if_neg (Nat.not_lt.2 h)

theorem settledBase_phase : (settledBase p s).phase = s.phase := by simp [settledBase]

theorem droppedBase_phase : (droppedBase p s).phase = s.phase := by simp [droppedBase]

theorem settledBase_store : (settledBase p s).store = s.store.set p.slot.val (.valid p.item) := by simp [settledBase]

theorem droppedBase_store : (droppedBase p s).store = s.store.set p.slot.val .burned := by simp [droppedBase]

theorem settledBase_idle : (settledBase p s).persist.program = none := by
  unfold settledBase settleItem
  split <;> simp [dropBadSpare]

theorem droppedBase_idle : (droppedBase p s).persist.program = none := by
  unfold droppedBase dropItem
  split <;> simp [dropBadSpare]

theorem startPersist_idle_lowest {q : Program} (hidle : s.persist.program = none)
    (h : (startPersist s).persist.program = some q) : LowestEmpty s.store q.slot :=
  ((startPersist_slotsKept s).program q h).resolve_left fun hs => by simp [hidle] at hs

end

/-- The program in flight in `s` leaves `v`, VALID or BURNED, in its slot; one in flight in `t` is in the lowest EMPTY slot. -/
structure SlotProgrammed (p : Program) (v : StoreSlot) (s t : State) : Prop where
  program : s.persist.program = some p
  full : v ≠ .empty
  store : t.store = s.store.set p.slot.val v
  next : ∀ q : Program, t.persist.program = some q → LowestEmpty t.store q.slot

theorem completeProgram_programmed {p : Program} {s : State} (ok : Bool) (h : s.persist.program = some p) :
    SlotProgrammed p (if ok then .valid p.item else .burned) s (completeProgram p ok s) := by
  cases ok with
  | true =>
    rw [completeProgram_verified]
    refine ⟨h, StoreSlot.noConfusion, by simp [settledBase_store], fun q hq => ?_⟩
    simpa using startPersist_idle_lowest settledBase_idle hq
  | false =>
    by_cases ht : p.tries < 3
    · rw [completeProgram_retry ht]
      refine ⟨h, StoreSlot.noConfusion, by simp, fun q hq => ?_⟩
      simpa using beginProgram_lowest hq
    · rw [completeProgram_dropped (Nat.not_lt.1 ht)]
      refine ⟨h, StoreSlot.noConfusion, by simp [droppedBase_store], fun q hq => ?_⟩
      simpa using startPersist_idle_lowest droppedBase_idle hq

theorem execPersistProgramComplete_slots (ok : Bool) {s t : State} (h : execPersistProgramComplete ok s = .next t) :
    SlotsKept s t ∨ ∃ p : Program, SlotProgrammed p (if ok then .valid p.item else .burned) s t := by
  obtain rfl := Host.Outcome.next.inj h
  split
  · next p hp => exact .inr ⟨p, completeProgram_programmed ok hp⟩
  · exact .inl (.refl s)

/-- The reset leaves the slot of a program in flight BURNED, and no program (R176). -/
theorem execPowerOnReset_slots {lost held : Bool} {s t : State} (h : execPowerOnReset lost held s = .next t) :
    SlotsKept s t ∨ ∃ p : Program, SlotProgrammed p .burned s t := by
  obtain rfl := Host.Outcome.next.inj h
  cases hp : s.persist.program with
  | none => exact .inl ⟨by simp [storeAfterReset, hp], fun q hq => by cases hq⟩
  | some p =>
    exact .inr ⟨p, hp, StoreSlot.noConfusion, by simp [storeAfterReset, hp], fun q hq => by cases hq⟩

/-! ### Every step -/

/-- The command at the front of the queue ends a program and leaves `v` in its slot. -/
def EndsProgram (s : State) (p : Program) (v : StoreSlot) : Prop :=
  (∃ (ok : Bool) (rest : List Instr), s.pending = .persistProgramComplete ok :: rest ∧
      v = if ok then .valid p.item else .burned) ∨
    ∃ (lost held : Bool) (rest : List Instr), s.pending = .powerOnReset lost held :: rest ∧ v = .burned

/-- A step writes no slot, or it ends the program in flight. -/
theorem step_slots {s t : State} (h : step s = .next t) :
    SlotsKept s t ∨ ∃ (p : Program) (v : StoreSlot), SlotProgrammed p v s t ∧ EndsProgram s p v := by
  obtain ⟨-, rfl⟩ | ⟨c, rest, hp, he⟩ := step_cases h
  · exact .inl (.refl t)
  have hpending : SlotsKept s (s.setPending rest) := StoreSame.kept (by simp [StoreSame])
  have hprogrammed {p : Program} {v : StoreSlot} (k : SlotProgrammed p v (s.setPending rest) t) : SlotProgrammed p v s t :=
    ⟨k.program, k.full, k.store, k.next⟩
  by_cases hreset : ∃ lost held : Bool, c = .powerOnReset lost held
  · obtain ⟨lost, held, rfl⟩ := hreset
    exact (execPowerOnReset_slots he).imp hpending.trans fun ⟨p, k⟩ =>
      ⟨p, _, hprogrammed k, .inr ⟨lost, held, rest, hp, rfl⟩⟩
  by_cases hprogram : ∃ ok : Bool, c = .persistProgramComplete ok
  · obtain ⟨ok, rfl⟩ := hprogram
    exact (execPersistProgramComplete_slots ok he).imp hpending.trans fun ⟨p, k⟩ =>
      ⟨p, _, hprogrammed k, .inl ⟨ok, rest, hp, rfl⟩⟩
  · exact .inl (hpending.trans
      (exec_slotsKept (fun lost held e => hreset ⟨lost, held, e⟩) (fun ok e => hprogram ⟨ok, e⟩) he))

/-! ### The law of the store (R167) -/

section
variable {p : Program} {v : StoreSlot} {s t : State}

theorem SlotProgrammed.slot (h : SlotProgrammed p v s t) : t.store[p.slot] = v := by
  rw [h.store]
  exact Vector.getElem_set_self _

theorem SlotProgrammed.other (h : SlotProgrammed p v s t) {n : Fin 64} (hn : n ≠ p.slot) : t.store[n] = s.store[n] := by
  rw [h.store]
  exact Vector.getElem_set_ne _ _ fun e => hn (Fin.ext e.symm)

theorem SlotProgrammed.empty_iff (h : SlotProgrammed p v s t) {n : Fin 64} :
    t.store[n] = .empty ↔ n ≠ p.slot ∧ s.store[n] = .empty := by
  rw [h.store]
  exact set_eq_empty_iff h.full

theorem SlotsKept.storeLaw (h : SlotsKept s t) (hs : StoreLaw s) : StoreLaw t := by
  obtain ⟨hrun, hlow⟩ := hs
  rw [StoreLaw, h.store]
  exact ⟨hrun, fun q hq => (h.program q hq).elim (hlow q) id⟩

/-- The program's slot is the lowest of the run, so the run loses its bottom alone. -/
theorem SlotProgrammed.storeLaw (h : SlotProgrammed p v s t) (hs : StoreLaw s) : StoreLaw t := by
  obtain ⟨hrun, hlow⟩ := hs
  refine ⟨fun n m hnm hn => ?_, h.next⟩
  obtain ⟨hne, hempty⟩ := h.empty_iff.1 hn
  have habove : p.slot < n := lt_of_le_of_ne (not_lt.1 fun hlt => (hlow p h.program).2 n hlt hempty) hne.symm
  exact h.empty_iff.2 ⟨(habove.trans hnm).ne', hrun n m hnm hempty⟩

end

/-- Settles O59: a step that writes a slot ends the program in flight, and writes the slot of that program alone, which is the
lowest of the EMPTY run. -/
theorem storeNeverEmptiesAgain : Obligations.StoreNeverEmptiesAgain := by
  refine ⟨fun s t n h hn => ?_, fun s t n h hfull hempty => ?_, fun s t hs h => ?_⟩ <;>
    obtain hkept | ⟨p, v, hp, hend⟩ := step_slots h
  · exact absurd (by rw [hkept.store]) hn
  · obtain rfl : n = p.slot := by_contra fun hne => hn (hp.other hne)
    refine ⟨p, hp.program, rfl, ?_⟩
    rw [hp.slot]
    exact hend
  · exact hfull (hkept.store ▸ hempty)
  · exact hfull (hp.empty_iff.1 hempty).2
  · exact hkept.storeLaw hs
  · exact hp.storeLaw hs

end Sys2Proof.Machine
end

section
/-! PROOFS. The completion of a program of the repair store, and the work that the engine takes up then (O44). -/

namespace Sys2Proof.Machine

/-! ### The item settled or dropped (R173, R175) -/

section
variable {s : State} {p : Program}

/-- The record of a REPAIR item is the one of the key that still has the programmed spare as its home. -/
theorem ifStillHome_eq (k : RowKey) (i : SpareIdx) (f : Record → Record) (s : State) :
    ifStillHome k i f s = { s with table := s.table.map fun r => if r.key = k ∧ r.homeSpare = some i then f r else r } := by
  simp only [ite_and]
  rfl

theorem settledBase_badSpare {b : SpareName} (h : p.item = .badSpare b) : settledBase p s = { s with
    store := s.store.set p.slot.val (.valid p.item)
    persist := ⟨s.persist.badSpares.filter fun x => x != b, none⟩ } := by
  simp only [settledBase, h]
  rfl

theorem droppedBase_badSpare {b : SpareName} (h : p.item = .badSpare b) : droppedBase p s = { s with
    store := s.store.set p.slot.val .burned
    persist := ⟨s.persist.badSpares.filter fun x => x != b, none⟩
    attn := { s.attn with flags := s.attn.flags ||| BitVec.twoPow 10 7 } } := by
  simp only [droppedBase, h]
  rfl

theorem settledBase_repair {k : RowKey} {i : SpareIdx} (h : p.item = .repair k i) : settledBase p s = { s with
    store := s.store.set p.slot.val (.valid p.item)
    persist := ⟨s.persist.badSpares, none⟩
    table := s.table.map fun r =>
      if r.key = k ∧ r.homeSpare = some i then { r with persisted := true, persistWanted := false } else r } := by
  simp only [settledBase, h, settleItem, ifStillHome_eq]
  rfl

theorem droppedBase_repair {k : RowKey} {i : SpareIdx} (h : p.item = .repair k i) : droppedBase p s = { s with
    store := s.store.set p.slot.val .burned
    persist := ⟨s.persist.badSpares, none⟩
    attn := { s.attn with flags := s.attn.flags ||| BitVec.twoPow 10 7 }
    table := s.table.map fun r => if r.key = k ∧ r.homeSpare = some i then { r with persistWanted := false } else r } := by
  simp only [droppedBase, h, dropItem, ifStillHome_eq]
  rfl

/-! ### The completion (R173, R174) -/

theorem persistProgramComplete_eq (hp : s.persist.program = some p) (ok : Bool) :
    exec (.persistProgramComplete ok) s = .next (completeProgram p ok s) := by
  simp only [exec, execPersistProgramComplete, hp]

theorem programVerifies (hp : s.persist.program = some p) :
    exec (.persistProgramComplete true) s = .next (startPersist (settledBase p s)) :=
  persistProgramComplete_eq hp true

theorem programFails_last (hp : s.persist.program = some p) (ht : 3 ≤ p.tries) :
    exec (.persistProgramComplete false) s = .next (startPersist (droppedBase p s)) := by
  rw [persistProgramComplete_eq hp, completeProgram_dropped ht]

theorem programFails_retry {n : Fin 64} (hp : s.persist.program = some p) (ht : p.tries < 3)
    (hn : LowestEmpty (s.store.set p.slot.val .burned) n) :
    exec (.persistProgramComplete false) s = .next { s with
      store := s.store.set p.slot.val .burned
      persist := { s.persist with program := some ⟨n, p.item, p.tries + 1⟩ } } := by
  rw [persistProgramComplete_eq hp, completeProgram_retry ht, beginProgram, State.setStore_store, lowestEmpty_some hn]
  rfl

theorem programFails_full (hp : s.persist.program = some p) (ht : p.tries < 3)
    (hfull : ∀ n : Fin 64, (s.store.set p.slot.val .burned)[n] ≠ .empty) :
    exec (.persistProgramComplete false) s = .next { s with
      store := s.store.set p.slot.val .burned
      persist := ⟨[], none⟩
      attn := { s.attn with flags := s.attn.flags ||| BitVec.twoPow 10 8 }
      table := s.table.map fun r => { r with persistWanted := false } } := by
  rw [persistProgramComplete_eq hp, completeProgram_retry ht, beginProgram, State.setStore_store, lowestEmpty_none hfull]
  rfl

/-- With the only wish to be recorded settled or dropped, no record wants to be recorded. -/
theorem persistWanted_cleared {table : List Record} {k : RowKey} {i : SpareIdx} {f : Record → Record}
    (honly : ∀ r ∈ table, r.persistWanted = true → r.key = k ∧ r.homeSpare = some i)
    (hf : ∀ r, (f r).persistWanted = false) :
    ∀ r ∈ table.map (fun r => if r.key = k ∧ r.homeSpare = some i then f r else r), r.persistWanted = false := by
  rw [List.forall_mem_map]
  intro r hr
  split
  · exact hf r
  · next h => exact Bool.eq_false_iff.2 fun hw => h (honly r hr hw)

end

/-- Settles O44: a program that verifies, or that is the third to fail, ends the sequence, and the idle engine looks for work; any
other that fails begins again in a slot that is EMPTY still. -/
theorem programCompletes : Obligations.ProgramCompletes := by
  have hlast (b : SpareName) : ([b].filter fun x => x != b) = [] := by simp
  refine ⟨fun s => ⟨startPersist_rests, startPersist_workTakenUp⟩, fun s p hp hrun =>
    ⟨fun b hb hlist hnone => ⟨?_, fun ht => ?_⟩, fun k i hk hlist honly => ⟨?_, fun ht => ?_⟩,
      fun n ht hne hn hlow => ?_, fun ht hfull => ?_, fun ok base hbase => ?_⟩⟩
  · rw [programVerifies hp, settledBase_badSpare hb, hlist, hlast]
    exact congrArg _ (startPersist_no_work rfl hnone)
  · rw [programFails_last hp ht, droppedBase_badSpare hb, hlist, hlast]
    exact congrArg _ (startPersist_no_work rfl hnone)
  · rw [programVerifies hp, settledBase_repair hk, hlist]
    exact congrArg _ (startPersist_no_work rfl (persistWanted_cleared honly fun _ => rfl))
  · rw [programFails_last hp ht, droppedBase_repair hk, hlist]
    exact congrArg _ (startPersist_no_work rfl (persistWanted_cleared honly fun _ => rfl))
  · exact programFails_retry hp ht ⟨(set_eq_empty_iff StoreSlot.noConfusion).2 ⟨hne, hn⟩, fun m hm he =>
      ((set_eq_empty_iff StoreSlot.noConfusion).1 he).elim (hlow m hm)⟩
  · exact programFails_full hp ht fun n he => ((set_eq_empty_iff StoreSlot.noConfusion).1 he).elim (hfull n)
  · have hsettled := startPersist_workTakenUp (s := settledBase p s) (settledBase_phase.trans hrun) settledBase_idle
    have hdropped := startPersist_workTakenUp (s := droppedBase p s) (droppedBase_phase.trans hrun) droppedBase_idle
    obtain ⟨b, hb, ⟨rfl, rfl⟩ | ⟨rfl, ht, rfl⟩⟩ | ⟨k, i, hk, ⟨rfl, rfl⟩ | ⟨rfl, ht, rfl⟩⟩ := hbase
    · exact ⟨_, programVerifies hp, settledBase_badSpare hb ▸ hsettled⟩
    · exact ⟨_, programFails_last hp ht, droppedBase_badSpare hb ▸ hdropped⟩
    · exact ⟨_, programVerifies hp, settledBase_repair hk ▸ hsettled⟩
    · exact ⟨_, programFails_last hp ht, droppedBase_repair hk ▸ hdropped⟩

end Sys2Proof.Machine
end

section
/-! PROOFS. The bits of a transaction, and the checks of a command transaction in their order (O45). -/

namespace Sys2Proof.Machine

/-! ### The command that the bits of a transaction are (R179, R182) -/

theorem byte_eq_of_toNat {b : Byte} {n : Nat} (h : b.toNat = n) : b = BitVec.ofNat 8 n := by
  rw [← h, BitVec.ofNat_toNat, BitVec.setWidth_eq]

/-- The bytes that have been received and the count of the bits after them decide the command (R179). -/
theorem readTransaction_bits {first : Byte} {args : List Byte} {rest : List Bool} {tail : Fin 8}
    (h : rest.length = tail.val) (prompt : Bool) :
    readTransaction (bitsOf (first :: args) ++ rest) prompt = some (transactionOf first args tail prompt) := by
  have hreceived : receivedBytes (bitsOf (first :: args) ++ rest) = first :: args :=
    receivedBytes_bitsOf _ _ (h ▸ tail.isLt)
  have htail : Fin.ofNat 8 (bitsOf (first :: args) ++ rest).length = tail := by
    apply Fin.ext
    rw [List.length_append, bitsOf_length, h]
    exact (Nat.mul_add_mod 8 _ _).trans (Nat.mod_eq_of_lt tail.isLt)
  rw [readTransaction, hreceived]
  dsimp only
  rw [htail]

/-- Every first byte but 00h opens a command transaction of its code (R179, R182). A code that the table does not assign, and
CLEAR, have no promptness of their own. -/
theorem transactionOf_command {first : Byte} (hfirst : first ≠ 0) (args : List Byte) (tail : Fin 8) (prompt : Bool) :
    (transactionOf first args tail prompt).wellFormed = true ∧
    (transaction (transactionOf first args tail prompt) = some (first, args, tail, prompt) ∨
      (argumentCount first = none ∨ first = 0x7F) ∧
        transaction (transactionOf first args tail prompt) = some (first, args, tail, true)) := by
  unfold transactionOf
  split
  case h_1 h => exact absurd (byte_eq_of_toNat h) hfirst
  case h_20 h => exact ⟨rfl, .inr ⟨.inr (byte_eq_of_toNat h), by rw [byte_eq_of_toNat h]; rfl⟩⟩
  case h_21 =>
    refine ⟨?_, .inr ⟨.inl ?_, rfl⟩⟩
    · simp_all [Instr.wellFormed, unassignedCode, assignedCodes, ← BitVec.toNat_inj]
    · simp_all [argumentCount, ← BitVec.toNat_inj]
  all_goals
    next h => exact ⟨rfl, .inl (by rw [byte_eq_of_toNat h]; rfl)⟩

/-! ### The argument counts and the range checks (R5, R181, R182) -/

section
variable {args : List Byte}

theorem rankArg_isNone (b : Byte) : (rankArg b).isNone = decide (1 < b.toNat) := by
  unfold rankArg
  split <;> simp <;> omega

theorem bankArg_isNone (b : Byte) : (bankArg b).isNone = decide (15 < b.toNat) := by
  unfold bankArg
  split <;> simp <;> omega

/-- The identifiers of the parameters are 1 to 14. -/
theorem paramArg_isNone (b : Byte) : (paramArg b).isNone = (b.toNat == 0 || decide (14 < b.toNat)) := by
  revert b
  decide

theorem keyArg_isNone {code : Byte} (hcode : code ∈ ([0x10, 0x12, 0x13, 0x14, 0x15, 0x20, 0x21, 0x30] : List Byte))
    (h : args.length = 4) : (keyArg args).isNone = outOfRange code args := by
  obtain ⟨r, b, hi, lo, rfl⟩ := List.length_eq_four.1 h
  rw [outOfRange, ← rankArg_isNone, ← bankArg_isNone, decide_eq_true hcode, Bool.true_and, keyArg]
  cases rankArg r <;> cases bankArg b <;> rfl

theorem posArg_isNone (h : args.length = 2) : (posArg args).isNone = outOfRange 0x22 args := by
  obtain ⟨r, b, rfl⟩ := List.length_eq_two.1 h
  rw [outOfRange, ← rankArg_isNone, ← bankArg_isNone, posArg]
  cases rankArg r <;> cases bankArg b <;> rfl

theorem storeSlotArg_isNone (h : args.length = 1) : (storeSlotArg args).isNone = outOfRange 0x31 args := by
  obtain ⟨n, rfl⟩ := List.length_eq_one_iff.1 h
  by_cases hn : n.toNat < 64 <;> simp [storeSlotArg, outOfRange, hn] <;> omega

theorem getParamArg_isNone (h : args.length = 1) : (getParamArg args).isNone = outOfRange 0x41 args := by
  obtain ⟨n, rfl⟩ := List.length_eq_one_iff.1 h
  exact paramArg_isNone n

theorem setParamArg_isNone (h : args.length = 5) : (setParamArg args).isNone = outOfRange 0x40 args := by
  obtain ⟨n, values, rfl⟩ := List.exists_of_length_succ args h
  obtain ⟨a, b, c, d, rfl⟩ := List.length_eq_four.1 (Nat.succ.inj h)
  exact Option.isNone_map.trans (paramArg_isNone n)

/-- The row of a code in the command table is its argument count and its range check (R182). -/
theorem commandTable_some {code : Byte} {n : Nat} {parse : List Byte → Option PortCommand}
    (h : commandTable code = some (n, parse)) :
    argumentCount code = some n ∧ ∀ args : List Byte, args.length = n → (parse args).isNone = outOfRange code args := by
  have hrow {b : Nat} {m : Nat} {p : List Byte → Option PortCommand} (hcode : code.toNat = b)
      (h : some (m, p) = some (n, parse)) (hcount : argumentCount (BitVec.ofNat 8 b) = some m)
      (hrange : ∀ args : List Byte, args.length = m → (p args).isNone = outOfRange (BitVec.ofNat 8 b) args) :
      argumentCount code = some n ∧ ∀ args : List Byte, args.length = n → (parse args).isNone = outOfRange code args := by
    cases h
    rw [byte_eq_of_toNat hcode]
    exact ⟨hcount, hrange⟩
  unfold commandTable at h
  split at h
  case h_1 hcode | h_15 hcode | h_16 hcode =>
    exact hrow hcode h rfl fun args hn => by rw [List.eq_nil_of_length_eq_zero hn]; rfl
  case h_3 hcode => exact hrow hcode h rfl fun args hn => by obtain ⟨a, rfl⟩ := List.length_eq_one_iff.1 hn; rfl
  case h_17 hcode | h_18 hcode =>
    exact hrow hcode h rfl fun args hn => by obtain ⟨a, b, rfl⟩ := List.length_eq_two.1 hn; rfl
  case h_10 hcode => exact hrow hcode h rfl fun args hn => Option.isNone_map.trans (posArg_isNone hn)
  case h_12 hcode => exact hrow hcode h rfl fun args hn => Option.isNone_map.trans (storeSlotArg_isNone hn)
  case h_13 hcode => exact hrow hcode h rfl fun args hn => Option.isNone_map.trans (setParamArg_isNone hn)
  case h_14 hcode => exact hrow hcode h rfl fun args hn => Option.isNone_map.trans (getParamArg_isNone hn)
  case h_19 => cases h
  all_goals
    next hcode => exact hrow hcode h rfl fun args hn => Option.isNone_map.trans (keyArg_isNone (by decide) hn)

/-- CLEAR has its own transaction; every other code without a row in the command table is unassigned. -/
theorem commandTable_none {code : Byte} (h : commandTable code = none) : argumentCount code = none ∨ code = clearCode := by
  unfold commandTable at h
  split at h
  case h_19 =>
    by_cases hclear : code = clearCode
    · exact .inr hclear
    · have hclear : ¬ code.toNat = 127 := fun e => hclear (byte_eq_of_toNat e)
      exact .inl (by simp_all [argumentCount, ← BitVec.toNat_inj])
  all_goals cases h

end

/-! ### The checks of R181, in their order -/

/-- A command of the port is a CLEAR transaction or a command transaction of its code (R179, R182). -/
theorem exec_command {c : Instr} {code : Byte} {args : List Byte} {tail : Fin 8} {prompt : Bool} (hc : c.wellFormed = true)
    (h : transaction c = some (code, args, tail, prompt)) (s : State) :
    exec c s = .next (if code = clearCode then clearTransaction args tail s
      else commandTransaction code args tail prompt s) := by
  unfold transaction at h
  split at h
  case h_1 =>
    cases h
    have hzero : code ≠ 0 := fun e => by rw [e] at hc; cases hc
    simp only [exec, execUnassignedCommand, if_neg hzero]
  case h_21 => cases h
  all_goals cases h; rfl

/-- What every check that fails leaves: its answer, and an awaited response discarded (R180, R181). -/
theorem answer_rejected (s : State) (n : Nat) (status : Status) :
    answer (status, []) false (discardAwaited (shiftOut (commandOut n 0) s)) =
      { s with port := rejectedPort s n status } := rfl

/-- A partial transaction is discarded whole (R179). -/
theorem clearTransaction_partial (args : List Byte) {tail : Fin 8} (h : tail ≠ 0) (s : State) :
    clearTransaction args tail s = shiftOut (commandOut args.length tail) s := if_neg h

theorem commandTransaction_partial (code : Byte) (args : List Byte) {tail : Fin 8} (prompt : Bool) (h : tail ≠ 0)
    (s : State) : commandTransaction code args tail prompt s = shiftOut (commandOut args.length tail) s := if_neg h

section
variable {s : State} {code : Byte} {args : List Byte} {prompt : Bool}

theorem clearTransaction_count (h : args.length ≠ 0) :
    clearTransaction args 0 s = { s with port := rejectedPort s args.length .badArgument } := by
  rw [clearTransaction, if_pos rfl, if_pos h]
  exact answer_rejected s _ _

theorem clearTransaction_loading (hn : args.length = 0) (h : s.phase = .loading) :
    clearTransaction args 0 s = { s with port := rejectedPort s args.length .busy } := by
  have hphase : (shiftOut (commandOut args.length 0) s).phase = .loading := h
  rw [clearTransaction, if_pos rfl, if_neg (not_not.2 hn), if_pos hphase]
  exact answer_rejected s _ _

/-- Neither the phase check nor the take-up check stops the command (R181). -/
theorem not_busyFor (hphase : s.phase = .running ∨ code = statusCode) (hawaiting : s.port.awaiting = none)
    (bits : List Bool) : ¬ busyFor code (discardAwaited (shiftOut bits s)) = true := by
  rcases hphase with h | h <;> simp [busyFor, discardAwaited, shiftOut, h, hawaiting]

theorem commandTransaction_code (hcode : commandTable code = none) :
    commandTransaction code args 0 prompt s = { s with port := rejectedPort s args.length .badCommand } := by
  rw [commandTransaction, if_pos rfl, checkAndDispatch, hcode]
  exact answer_rejected s _ _

variable {n : Nat} {parse : List Byte → Option PortCommand} (hcode : commandTable code = some (n, parse))
include hcode

theorem commandTransaction_count (hn : args.length ≠ n) :
    commandTransaction code args 0 prompt s = { s with port := rejectedPort s args.length .badArgument } := by
  rw [commandTransaction, if_pos rfl, checkAndDispatch, hcode]
  dsimp only
  rw [if_pos hn]
  exact answer_rejected s _ _

theorem commandTransaction_busy (hn : args.length = n)
    (hbusy : s.phase = .loading ∧ code ≠ statusCode ∨ s.port.awaiting.isSome = true) :
    commandTransaction code args 0 prompt s = { s with port := rejectedPort s args.length .busy } := by
  have hb : busyFor code (discardAwaited (shiftOut (commandOut args.length 0) s)) = true := by
    simpa [busyFor, discardAwaited, shiftOut] using hbusy
  rw [commandTransaction, if_pos rfl, checkAndDispatch, hcode]
  dsimp only
  rw [if_neg (not_not.2 hn), if_pos hb]
  exact answer_rejected s _ _

theorem commandTransaction_range (hn : args.length = n) (hphase : s.phase = .running ∨ code = statusCode)
    (hawaiting : s.port.awaiting = none) (hrange : parse args = none) :
    commandTransaction code args 0 prompt s = { s with port := rejectedPort s args.length .badArgument } := by
  rw [commandTransaction, if_pos rfl, checkAndDispatch, hcode]
  dsimp only
  rw [if_neg (not_not.2 hn), if_neg (not_busyFor hphase hawaiting _), hrange]
  exact answer_rejected s _ _

end

/-- Settles O45: the bytes received pick the command; a partial transaction only shifts ones out; and the checks of a complete
one, CLEAR's apart, go by the row of its code in the command table. -/
theorem portChecksInOrder : Obligations.PortChecksInOrder := by
  refine ⟨⟨fun b => rfl, fun first args rest tail prompt hrest => ⟨?_, fun hfirst => ?_⟩, fun bits prompt hshort => ?_,
    fun bits hlong => ?_⟩, fun s c code args tail prompt hc ht htail => ?_, fun s c code args prompt hc ht => ?_⟩
  · rintro rfl
    exact readTransaction_bits hrest prompt
  · exact ⟨_, readTransaction_bits hrest prompt, transactionOf_command hfirst args tail prompt⟩
  · rw [readTransaction, receivedBytes_short hshort]
  · obtain ⟨rest, hrest, hbits⟩ := bitsOf_receivedBytes bits
    cases hreceived : receivedBytes bits with
    | nil =>
      rw [hreceived] at hbits
      subst hbits
      exact absurd hrest (not_lt.2 hlong)
    | cons first args => exact ⟨first, args, rest, hrest, hreceived ▸ hbits⟩
  · rw [exec_command hc ht, clearTransaction_partial args htail, commandTransaction_partial code args prompt htail, ite_self]
    rfl
  · rw [exec_command hc ht]
    by_cases hclear : code = clearCode
    · rw [if_pos hclear]
      subst hclear
      refine ⟨nofun, fun n hn => ?_⟩
      obtain rfl : 0 = n := Option.some.inj hn
      refine ⟨fun h => congrArg _ (clearTransaction_count h), fun h hp _ => congrArg _ (clearTransaction_loading h hp),
        fun _ _ _ hne => absurd rfl hne, fun h _ _ hrange => ?_⟩
      rw [List.eq_nil_of_length_eq_zero h] at hrange
      cases hrange
    · rw [if_neg hclear]
      cases htable : commandTable code with
      | none =>
        have hnone := (commandTable_none htable).resolve_right hclear
        exact ⟨fun _ => congrArg _ (commandTransaction_code htable), fun n hn => nomatch hnone.symm.trans hn⟩
      | some row =>
        obtain ⟨hcount, hrange⟩ := commandTable_some htable
        refine ⟨fun h => (nomatch hcount.symm.trans h), fun n hn => ?_⟩
        obtain rfl : row.1 = n := Option.some.inj (hcount.symm.trans hn)
        exact ⟨fun h => congrArg _ (commandTransaction_count htable h),
          fun h hp hne => congrArg _ (commandTransaction_busy htable h (.inl ⟨hp, hne⟩)),
          fun h _ ha _ => congrArg _ (commandTransaction_busy htable h (.inr ha)),
          fun h hp ha ho => congrArg _ (commandTransaction_range htable h (.inl hp) ha
            (Option.isNone_iff_eq_none.1 ((hrange args h).trans ho)))⟩

end Sys2Proof.Machine
end

section
/-! PROOFS. A command taken up later ends as one taken up at once (O46). -/

namespace Sys2Proof.Machine

/-! ### A take-up stands beside the conversation of the port: it reads of it the restart flag alone -/

/-- What a take-up leaves and answers, with the port put in place of its own. -/
def beside (p : Port) (x : State × Answer) : State × Answer := (x.1.setPort p, x.2)

theorem beside_ite {c : Prop} [Decidable c] (p : Port) (x y : State × Answer) :
    beside p (if c then x else y) = if c then beside p x else beside p y := apply_ite (beside p) c x y

section
variable (s : State) (p : Port)

theorem onRecord_setPort (k : RowKey) {f : Record → State → State × Answer}
    (hf : ∀ r, f r (s.setPort p) = beside p (f r s)) : onRecord k f (s.setPort p) = beside p (onRecord k f s) := by
  cases hr : lookup s k with
  | none => rw [onRecord_none hr, onRecord, hr]; rfl
  | some r => rw [onRecord_some hr, onRecord, hr]; exact hf r

theorem createRecord_setPort (k : RowKey) (origin : Origin) (change : Record → Record) :
    createRecord k origin change (s.setPort p) =
      (createRecord k origin change s).map fun x => (x.1, x.2.setPort p) := by
  rw [createRecord, createRecord, State.setPort_table, Option.map_map]
  rfl

theorem readRecord_setPort (n : Fin 256) : readRecord n (s.setPort p) = beside p (readRecord n s) := by
  rw [readRecord, readRecord, State.setPort_table]
  cases s.table.find? fun r => r.slot == n <;> rfl

theorem watchRow_setPort (k : RowKey) : watchRow k (s.setPort p) = beside p (watchRow k s) := by
  rw [watchRow, watchRow, show lookup (s.setPort p) k = lookup s k from rfl, createRecord_setPort]
  cases lookup s k with
  | some r => rfl
  | none => cases createRecord k .command (fun r => { r with pinned := true }) s <;> rfl

theorem releaseRow_setPort (k : RowKey) : releaseRow k (s.setPort p) = beside p (releaseRow k s) :=
  onRecord_setPort s p k fun _ => by rw [beside_ite]; rfl

theorem forceSpareRow_setPort (k : RowKey) : forceSpareRow k (s.setPort p) = beside p (forceSpareRow k s) := by
  have hforced : (forceQueue k (s.setPort p), Status.ok, ([] : List Byte)) = beside p (forceQueue k s, .ok, []) := by
    rw [forceQueue_setPort]
    rfl
  have hqueued (t : State) : (enqueue k true (t.setPort p), Status.ok, ([] : List Byte)) =
      beside p (enqueue k true t, .ok, []) := by
    rw [enqueue_setPort]
    rfl
  rw [forceSpareRow, forceSpareRow, show lookup (s.setPort p) k = lookup s k from rfl, createRecord_setPort]
  cases lookup s k with
  | some r =>
    dsimp only
    cases r.state with
    | watch | suspect | spared => exact hforced
    | queued => exact hqueued s
    | migrating => rfl
    | condemned =>
      dsimp only
      rw [beside_ite, hforced]
      rfl
  | none =>
    cases createRecord k .command id s with
    | none => rfl
    | some x => exact hqueued x.2

theorem abortMigrating_setPort (r : Record) : abortMigrating r (s.setPort p) = (abortMigrating r s).setPort p := by
  have hstopped (t : State) : serveQueue (updateRecord r.key Record.abort (orphanStep
      ((t.setPort p).setEngine { t.engine with marked := [] }))) =
      (serveQueue (updateRecord r.key Record.abort (orphanStep (t.setEngine { t.engine with marked := [] })))).setPort p := by
    rw [← serveQueue_setPort]
    exact congrArg (fun u => serveQueue (updateRecord r.key Record.abort u))
      (orphanStep_setPort (s := t.setEngine { t.engine with marked := [] }))
  unfold abortMigrating
  cases r.destSpare with
  | none => exact hstopped s
  | some d => exact hstopped (setSpare (keyPos r.key) d .free s)

theorem abortRow_setPort (k : RowKey) : abortRow k (s.setPort p) = beside p (abortRow k s) := by
  refine onRecord_setPort s p k fun r => ?_
  cases r.state with
  | migrating =>
    dsimp only
    rw [abortMigrating_setPort]
    rfl
  | _ => rfl

theorem persistRow_setPort (k : RowKey) : persistRow k (s.setPort p) = beside p (persistRow k s) := by
  refine onRecord_setPort s p k fun r => ?_
  rw [beside_ite, beside_ite, show updateRecord k (fun r => { r with persistWanted := true }) (s.setPort p) =
    (updateRecord k (fun r => { r with persistWanted := true }) s).setPort p from rfl, startPersist_setPort]
  rfl

theorem maskChanged_setPort : maskChanged (s.setPort p) = (maskChanged s).setPort p := by
  have hrow (t : State) {c : Prop} [Decidable c] :
      beginRow (if c then advanceCursor (t.setPort p) else t.setPort p) =
        (beginRow (if c then advanceCursor t else t)).setPort p := by
    rw [advanceCursor_setPort, ← setPort_ite, beginRow_setPort]
  unfold maskChanged
  dsimp only
  rw [setPort_ite]
  exact congrArg (ite _ _) (hrow (restartPace s))

theorem paramChanged_setPort (id : ParamId) : paramChanged id (s.setPort p) = (paramChanged id s).setPort p := by
  cases id with
  | bankMask => exact maskChanged_setPort s p
  | _ => rfl

theorem setParameter_setPort (id : ParamId) (value : BitVec 32) :
    setParameter id value (s.setPort p) = beside p (setParameter id value s) := by
  unfold setParameter
  dsimp only
  rw [beside_ite]
  exact congrArg (ite _ _) (congrArg (fun t => (t, _, _)) (paramChanged_setPort (s.setParams _) p id))

/-- Every take-up gives beside a port with the same restart flag what it gives beside the part's own. -/
theorem takeUp_setPort (c : PortCommand) (hp : p.restart = s.port.restart) :
    takeUp c (s.setPort p) = beside p (takeUp c s) := by
  cases c with
  | status =>
    have hreport : statusReport (s.setPort p) = statusReport s := by
      rw [statusReport, State.setPort_port, hp]
      rfl
    rw [takeUp, readStatus_, hreport]
    rfl
  | findRecord k => exact onRecord_setPort s p k (f := fun r s => (s, .ok, recordReport r)) fun _ => rfl
  | readRecord n => exact readRecord_setPort s p n
  | watchRow k => exact watchRow_setPort s p k
  | pin k =>
    exact onRecord_setPort s p k
      (f := fun _ s => (updateRecord k (fun r => { r with pinned := true }) s, .ok, [])) fun _ => rfl
  | unpin k =>
    exact onRecord_setPort s p k
      (f := fun _ s => (updateRecord k (fun r => { r with pinned := false }) s, .ok, [])) fun _ => rfl
  | release k => exact releaseRow_setPort s p k
  | forceSpare k => exact forceSpareRow_setPort s p k
  | abortMigration k => exact abortRow_setPort s p k
  | persist k => exact persistRow_setPort s p k
  | setParam id value => exact setParameter_setPort s p id value
  | _ => rfl

end

/-! ### COMMAND_TAKE_UP (R180, R181) -/

/-- The port after COMMAND_TAKE_UP: the answer is held unless the response has been discarded (R180). -/
def takenUpPort (p : Port) (a : Awaiting) (x : Answer) : Port :=
  { p with awaiting := none, held := if a.discarded then p.held else some ⟨x.1, x.2, a.command.isStatus⟩ }

/-- What awaits in the port is taken up whole. -/
theorem commandTakeUp_setPort (s : State) (p : Port) {a : Awaiting} (ha : p.awaiting = some a)
    (hp : p.restart = s.port.restart) : exec .commandTakeUp (s.setPort p) =
      .next ((takeUp a.command s).1.setPort (takenUpPort p a (takeUp a.command s).2)) := by
  have htake : takeUp a.command (s.setPort { p with awaiting := none }) =
      beside { p with awaiting := none } (takeUp a.command s) := takeUp_setPort s _ a.command hp
  rw [exec, execCommandTakeUp, State.setPort_port, ha]
  dsimp only
  rw [State.setPort_setPort, htake, takenUpPort]
  cases a.discarded <;> rfl

/-- The port after a complete command transaction with `n` argument bytes whose command awaits its take-up (R180, R181). -/
def pendingPort (s : State) (n : Nat) (c : PortCommand) : Port :=
  ⟨some ⟨.pending, [], false⟩, some ⟨c, false⟩, s.port.restart, List.replicate (8 * (n + 1)) true⟩

/-- A command that passes the checks and is not taken up at once stands as PENDING (R180, R181). -/
theorem commandTransaction_pending {code : Byte} {args : List Byte} {n : Nat} {parse : List Byte → Option PortCommand}
    {c : PortCommand} {s : State} (hawaiting : s.port.awaiting = none) (hphase : s.phase = .running ∨ code = statusCode)
    (hcode : commandTable code = some (n, parse)) (hn : args.length = n) (hparse : parse args = some c) :
    commandTransaction code args 0 false s = s.setPort (pendingPort s args.length c) := by
  rw [commandTransaction, if_pos rfl, checkAndDispatch, hcode]
  dsimp only
  rw [if_neg (not_not.2 hn), if_neg (not_busyFor hphase hawaiting _), hparse]
  rfl

/-- CLEAR and the unassigned codes are never left waiting (log 5). -/
theorem transaction_waiting_code {c : Instr} {code : Byte} {args : List Byte} {tail : Fin 8}
    (h : transaction c = some (code, args, tail, false)) : code ≠ clearCode := by
  unfold transaction at h
  split at h <;> cases h
  all_goals decide

/-- Settles O46: a take-up does not read the response that is held, so PENDING in its place makes no difference. -/
theorem takeUpCompletesPending : Obligations.TakeUpCompletesPending := by
  refine ⟨fun s c c' code args hc hc' ht ht' hcount hrange hphase hawaiting => ?_, fun s k r discarded ha hr => ?_,
    fun s cmd => ?_, fun s ha => ?_⟩
  · have hclear := transaction_waiting_code ht
    rw [exec_command hc ht, exec_command hc' ht', if_neg hclear, if_neg hclear]
    cases htable : commandTable code with
    | none =>
      have hnone := (commandTable_none htable).resolve_right hclear
      cases hnone.symm.trans hcount
    | some row =>
      obtain ⟨hrow, hparses⟩ := commandTable_some htable
      have hn : args.length = row.1 := Option.some.inj (hcount.symm.trans hrow)
      obtain ⟨cmd, hcmd⟩ := Option.isSome_iff_exists.1
        (Option.isNone_eq_false_iff.1 ((hparses args hn).trans hrange))
      have hnow := commandTransaction_answered hawaiting hphase htable hn hcmd
        (takeUp_setPort s (portOpen s row.1) cmd rfl)
      refine ⟨cmd, congrArg _ (commandTransaction_pending hawaiting hphase htable hn hcmd), ?_⟩
      rw [hnow]
      refine (commandTakeUp_setPort s (pendingPort s args.length cmd) rfl rfl).trans ?_
      rw [← hn]
      rfl
  · have hpin : takeUp (.pin k) s = (updateRecord k (fun r => { r with pinned := true }) s, .ok, []) :=
      pinRecord_known (p := s.port) hr
    refine (commandTakeUp_setPort s s.port ha rfl).trans ?_
    rw [hpin]
    rfl
  · exact ⟨_, commandTakeUp_setPort s { s.port with awaiting := some ⟨cmd, false⟩ } rfl rfl,
      commandTakeUp_setPort s { s.port with awaiting := some ⟨cmd, true⟩ } rfl rfl, rfl, rfl, rfl⟩
  · rw [exec, execCommandTakeUp, ha]

end Sys2Proof.Machine
end

section
/-! PROOFS. The bits of a response transaction, and the restart flag (O47). -/

namespace Sys2Proof.Machine

/-! ### The bits shifted out (R179, R180) -/

theorem bitsOf_blanks (n : Nat) : bitsOf (blanks n) = List.replicate (8 * n) true := by
  induction n with
  | zero => rfl
  | succ n ih =>
    rw [blanks, List.replicate_succ, bitsOf_cons, ← blanks, ih, show fieldBits 8 (0xFF : Byte).toNat = List.replicate 8 true
      by decide, List.replicate_append_replicate, Nat.mul_succ, Nat.add_comm]

theorem responseBytes_length (held : Option Held) (n : Nat) : (responseBytes held n).length = n := by
  cases held with
  | none => exact List.length_replicate
  | some h =>
    rw [responseBytes, List.length_take, List.length_append, blanks, List.length_replicate]
    omega

/-- Status byte, data bytes, then FFh (R180). -/
theorem responseBytes_get (h : Held) {n i : Nat} (hi : i < n) :
    (responseBytes (some h) n)[i]? = some (((h.status.code :: h.data)[i]?).getD 0xFF) := by
  rw [responseBytes, List.getElem?_take_of_lt hi]
  by_cases hl : i < (h.status.code :: h.data).length
  · rw [List.getElem?_append_left hl, List.getElem?_eq_getElem hl]
    rfl
  · rw [List.getElem?_append_right (not_lt.1 hl), List.getElem?_eq_none (not_lt.1 hl), blanks,
      List.getElem?_replicate_of_lt (by omega)]
    rfl

theorem responseOut_length (held : Option Held) (bytes : Nat) (tail : Fin 8) :
    (responseOut held bytes tail).length = 8 * bytes + tail.val := by
  rw [responseOut, List.length_take, bitsOf_length, responseBytes_length]
  omega

theorem responseOut_none (bytes : Nat) (tail : Fin 8) :
    responseOut none bytes tail = List.replicate (8 * bytes + tail.val) true := by
  rw [responseOut, responseBytes, bitsOf_blanks, List.take_replicate]
  congr 1
  omega

theorem responseOut_get (h : Held) {bytes : Nat} {tail : Fin 8} {i j : Nat} (hj : j < 8)
    (hbit : 8 * i + j < 8 * bytes + tail.val) : (responseOut (some h) bytes tail)[8 * i + j]? =
      some ((((h.status.code :: h.data)[i]?).getD 0xFF).getLsbD (7 - j)) := by
  rw [responseOut, List.getElem?_take_of_lt hbit, bitsOf_get _ _ _ hj, responseBytes_get h (by omega)]
  rfl

/-! ### The restart flag (R184) -/

theorem clocksRestart_iff {held : Option Held} {bytes : Nat} {tail : Fin 8} : clocksRestart held bytes tail = true ↔
    ∃ h : Held, held = some h ∧ h.isReport = true ∧ h.data[1]? = some 1 ∧ 25 ≤ bytes ∧ tail = 0 := by
  cases held with
  | none => simp [clocksRestart]
  | some h => simp [clocksRestart, Held.reportsRestart, and_assoc]

/-- A response transaction changes what was shifted out and the restart flag alone. -/
theorem responseTransactionOf_eq (bytes : Nat) (tail : Fin 8) (s : State) : responseTransactionOf bytes tail s = { s with
    port := { s.port with
      spiOut := responseOut s.port.held bytes tail
      restart := s.port.restart && !clocksRestart s.port.held bytes tail } } := by
  unfold responseTransactionOf
  dsimp only
  cases clocksRestart s.port.held bytes tail
  · rw [Bool.not_false, Bool.and_true]
    rfl
  · rw [Bool.not_true, Bool.and_false]
    rfl

/-- Settles O47: the bits by the bytes they belong to, and the flag by what the transaction clocks out. -/
theorem responseShiftedOut : Obligations.ResponseShiftedOut := by
  intro s bytes tail
  refine ⟨_, _, congrArg _ (responseTransactionOf_eq bytes tail s), responseOut_length _ _ _, fun hnone => ?_,
    fun h hheld i j hj hbit => ?_, ?_⟩
  · rw [hnone, responseOut_none]
  · rw [hheld, responseOut_get h hj hbit]
  · rw [← clocksRestart_iff, Bool.and_eq_false_iff, Bool.not_eq_false']

end Sys2Proof.Machine
end

section
/-! PROOFS. The parameters, and SET_PARAM (O52). -/

namespace Sys2Proof.Machine

/-! ### Ranges and values (R185, R186) -/

theorem range_ordered (id : ParamId) : id.range.1 ≤ id.range.2 := by cases id <;> decide

/-- The value after the clamp lies in the range (R186). -/
theorem clamp_spec {id : ParamId} {n v : Nat}
    (h : n < id.range.1 ∧ v = id.range.1 ∨ id.range.2 < n ∧ v = id.range.2 ∨ id.range.1 ≤ n ∧ n ≤ id.range.2 ∧ v = n) :
    id.clamp n = v ∧ id.range.1 ≤ v ∧ v ≤ id.range.2 := by
  have := range_ordered id
  unfold ParamId.clamp
  omega

theorem breaksOrder_iff {p : Params} {id : ParamId} {v : Nat} :
    breaksOrder p id v = true ↔ id = .tSpare ∧ v ≤ p.tSuspect ∨ id = .tSuspect ∧ p.tSpare ≤ v := by
  cases id <;> simp [breaksOrder]

theorem get_set_same (p : Params) {id : ParamId} {v : Nat} (h : v ≤ id.range.2) : (p.set v id).get id = v := by
  cases id with
  | bankMask => exact (BitVec.toNat_ofNat v 32).trans (Nat.mod_eq_of_lt (Nat.lt_succ_of_le h))
  | autoPersist =>
    have h : v ≤ 1 := h
    interval_cases v <;> rfl
  | _ => rfl

/-- A setting changes its own parameter alone. -/
theorem get_set (p : Params) (v : Nat) (id id' : ParamId) :
    (p.set v id).get id' = if id' = id then (p.set v id).get id else p.get id' := by
  cases id <;> cases id' <;> rfl

/-- The positions that a value of the bank mask includes. -/
theorem included_ofNat (v : Nat) (pos : BankPos) : included (BitVec.ofNat 32 v) pos = v.testBit pos.val := by
  rw [included, BitVec.getLsbD_ofNat, decide_eq_true pos.isLt, Bool.true_and]

theorem bankMask_ne_zero {v : Nat} (hle : v ≤ 4294967295) (hne : v ≠ 0) : BitVec.ofNat 32 v ≠ 0 := fun h =>
  hne ((get_set_same .default (id := .bankMask) hle).symm.trans (congrArg BitVec.toNat h))

/-! ### What a setting changes of its owner (R125, R136) -/

theorem maskChanged_eq (s : State) :
    maskChanged s = { s with patrol := (maskChanged s).patrol, table := (maskChanged s).table } := by
  have h := maskChanged_frame s
  generalize maskChanged s = u at h ⊢
  cases u
  simpa using h

theorem advanceCursor_paceTimer (s : State) : (advanceCursor s).patrol.paceTimer = s.patrol.paceTimer := by
  unfold advanceCursor
  split
  · rfl
  · dsimp only
    split <;> rfl

theorem beginRows_paceTimer (n : Nat) (s : State) : (beginRows n s).patrol.paceTimer = s.patrol.paceTimer := by
  induction n generalizing s with
  | zero => rfl
  | succ n ih =>
    unfold beginRows
    split
    · dsimp only
      split
      · split
        · rw [ih, completeRow, advanceCursor_paceTimer]
          rfl
        · rfl
      · rfl
    · rfl

section
variable {s : State}

/-- The pace interval of the parameters, restarted in the RUNNING part (R122, R125). -/
theorem restartPace_running (hrun : s.phase = .running) :
    restartPace s = { s with patrol := { s.patrol with paceTimer := paceInterval s.params } } := by
  rw [restartPace, if_pos hrun]
  rfl

/-- An empty mask stops the timer and drops the credits (R124). -/
theorem maskChanged_empty (hmask : s.params.bankMask = 0) :
    maskChanged s = (restartPace s).setPatrol { (restartPace s).patrol with credits := 0 } :=
  if_pos (includedCount_eq_zero.2 hmask)

/-- A mask that excludes the position of the cursor, with no row patrol in progress, advances the cursor at once (R125). -/
theorem maskChanged_advances (hmask : s.params.bankMask ≠ 0) (hcurrent : s.patrol.current = none)
    (hout : included s.params.bankMask s.patrol.pos = false) : maskChanged s = beginRow (advanceCursor (restartPace s)) :=
  (if_neg (mt includedCount_eq_zero.1 hmask)).trans (congrArg beginRow (if_pos ⟨hcurrent, hout⟩))

theorem maskChanged_stays (hmask : s.params.bankMask ≠ 0)
    (h : s.patrol.current.isSome = true ∨ included s.params.bankMask s.patrol.pos = true) :
    maskChanged s = beginRow (restartPace s) := by
  refine (if_neg (mt includedCount_eq_zero.1 hmask)).trans (congrArg beginRow (if_neg ?_))
  rintro ⟨hcurrent : s.patrol.current = none, hout⟩
  rcases h with h | h
  · rw [hcurrent] at h
    cases h
  · exact Bool.false_ne_true (hout.symm.trans h)

theorem maskChanged_paceTimer (s : State) :
    (maskChanged s).patrol.paceTimer = (restartPace s).patrol.paceTimer := by
  unfold maskChanged
  dsimp only
  split
  · rfl
  · rw [beginRow, beginRows_paceTimer]
    split
    · rw [advanceCursor_paceTimer]
    · rfl

end

theorem paramChanged_eq (id : ParamId) (s : State) : paramChanged id s = { s with
    patrol := (paramChanged id s).patrol, quiet := (paramChanged id s).quiet, table := (paramChanged id s).table } := by
  cases id with
  | bankMask =>
    have hquiet : (maskChanged s).quiet = s.quiet := by simp
    dsimp only [paramChanged]
    rw [hquiet]
    exact maskChanged_eq s
  | _ => rfl

theorem paramChanged_table {id : ParamId} (h : id ≠ .bankMask) (s : State) : (paramChanged id s).table = s.table := by
  cases id with
  | bankMask => exact absurd rfl h
  | _ => rfl

theorem paramChanged_patrol {id : ParamId} (hperiod : id ≠ .period) (hmask : id ≠ .bankMask) (s : State) :
    (paramChanged id s).patrol = s.patrol := by
  cases id with
  | period => exact absurd rfl hperiod
  | bankMask => exact absurd rfl hmask
  | _ => rfl

theorem paramChanged_quiet {id : ParamId} (h : id ≠ .quietThreshold) (s : State) : (paramChanged id s).quiet = s.quiet := by
  cases id with
  | quietThreshold => exact absurd rfl h
  | bankMask =>
    show (maskChanged s).quiet = s.quiet
    simp
  | _ => rfl

/-! ### SET_PARAM (R186) -/

theorem paramArg_code (id : ParamId) : paramArg id.code = some id := by cases id <;> rfl

theorem setParamArg_bytes (id : ParamId) (value : BitVec 32) :
    setParamArg (id.code :: bytesOf 4 value.toNat) = some (id, value) := by
  rw [setParamArg, paramArg_code, numberOf_bytesOf, BitVec.ofNat_toNat, BitVec.setWidth_eq]
  rfl

/-- SET_PARAM is taken up at once (R179 to R181, R186). -/
theorem setParam_answered {s : State} (hready : PortReady s) (id : ParamId) (value : BitVec 32) :
    exec (.setParam (id.code :: bytesOf 4 value.toNat) 0 true) s = .next ((setParameter id value s).1.setPort
      (answeredPort s 5 (setParameter id value s).2.1 (setParameter id value s).2.2 false)) :=
  congrArg Host.Outcome.next (commandTransaction_answered (c := .setParam id value) hready.2 (.inl hready.1) rfl rfl
    (by rw [setParamArg_bytes]; rfl) (setParameter_setPort s (portOpen s 5) id value))

section
variable {s : State} {id : ParamId} {value : BitVec 32} {v : Nat} (hv : id.clamp value.toNat = v)
include hv

theorem setParameter_refused (h : breaksOrder s.params id v = true) :
    setParameter id value s = (s, .badArgument, []) := by
  rw [setParameter, hv]
  exact if_pos h

theorem setParameter_sets (h : ¬ breaksOrder s.params id v = true) :
    setParameter id value s = (paramChanged id (s.setParams (s.params.set v id)),
      if v = value.toNat then .ok else .adjusted, id.code :: bytesOf 4 v) := by
  rw [setParameter, hv]
  exact if_neg h

end

/-- The state in which parameters are set and the pace interval is restarted, before the cursor is looked at (R125). -/
def paced (s : State) (p : Params) : State :=
  { s with params := p, patrol := { s.patrol with paceTimer := paceInterval p } }

theorem paced_table (s : State) (p : Params) : (paced s p).table = s.table := by
  unfold paced
  generalize paceInterval p = timer
  rfl

theorem restartPace_setParams {s : State} (hrun : s.phase = .running) (p : Params) :
    restartPace (s.setParams p) = paced s p := by
  rw [restartPace_running (s := s.setParams p) hrun]
  rfl

/-- With a row patrol in progress, or without a credit, nothing begins (R126), whatever the timer. -/
theorem beginRow_timer {s : State} (p : Params) (timer : Option Nat)
    (h : s.patrol.current.isSome = true ∨ s.patrol.credits = 0) :
    beginRow { s with params := p, patrol := { s.patrol with paceTimer := timer } } =
      { s with params := p, patrol := { s.patrol with paceTimer := timer } } := beginRow_idle (.inr (.inr h))

section
variable {s : State} {v : Nat} (hrun : s.phase = .running) (hv : v ≤ 4294967295) (hne : v ≠ 0)
include hrun

theorem setBankMask_empty : paramChanged .bankMask (s.setParams (s.params.set 0 .bankMask)) = { s with
    params := s.params.set 0 .bankMask, patrol := { s.patrol with paceTimer := none, credits := 0 } } := by
  rw [paramChanged, maskChanged_empty rfl, restartPace_setParams hrun, paced, paceInterval_none rfl]
  rfl

include hv hne

theorem setBankMask_advances (hcurrent : s.patrol.current = none) (hout : v.testBit s.patrol.pos.val = false) :
    paramChanged .bankMask (s.setParams (s.params.set v .bankMask)) =
      beginRow (advanceCursor (paced s (s.params.set v .bankMask))) := by
  rw [← restartPace_setParams hrun]
  exact maskChanged_advances (s := s.setParams (s.params.set v .bankMask)) (bankMask_ne_zero hv hne) hcurrent
    ((included_ofNat v s.patrol.pos).trans hout)

theorem setBankMask_stays (h : s.patrol.current.isSome = true ∨ v.testBit s.patrol.pos.val = true) :
    paramChanged .bankMask (s.setParams (s.params.set v .bankMask)) = beginRow (paced s (s.params.set v .bankMask)) := by
  rw [← restartPace_setParams hrun]
  exact maskChanged_stays (s := s.setParams (s.params.set v .bankMask)) (bankMask_ne_zero hv hne)
    (h.imp_right (included_ofNat v s.patrol.pos).trans)

theorem setBankMask_rests
    (h : s.patrol.current.isSome = true ∨ s.patrol.credits = 0 ∧ v.testBit s.patrol.pos.val = true) :
    paramChanged .bankMask (s.setParams (s.params.set v .bankMask)) = paced s (s.params.set v .bankMask) := by
  rw [setBankMask_stays hrun hv hne (h.imp_right And.right)]
  exact beginRow_timer _ _ (h.imp_right And.left)

end

/-- Settles O52: the order check is that of the clamped value; the setting changes its own parameter, and its owner follows. -/
theorem setParamClampsAndSets : Obligations.SetParamClampsAndSets := by
  refine ⟨⟨rfl, by decide, by decide, by decide⟩, fun s id value v hready hrange => ?_⟩
  obtain ⟨hclamp, -, hle⟩ := clamp_spec hrange
  rw [← breaksOrder_iff, setParam_answered hready]
  refine ⟨fun hbreaks => ?_, fun hkeeps => ?_⟩
  · rw [setParameter_refused hclamp hbreaks]
    rfl
  · rw [setParameter_sets hclamp hkeeps]
    refine ⟨s.params.set v id, (paramChanged id (s.setParams (s.params.set v id))).patrol,
      (paramChanged id (s.setParams (s.params.set v id))).quiet, (paramChanged id (s.setParams (s.params.set v id))).table,
      ?_, get_set_same _ hle, fun id' hne => (get_set _ _ _ _).trans (if_neg hne), fun hid => paramChanged_table hid _, ?_,
      fun hp hm => paramChanged_patrol hp hm _, ?_, ?_, ?_, ?_, fun hid => paramChanged_quiet hid _, ?_⟩
    · rw [paramChanged_eq id (s.setParams (s.params.set v id))]
      rfl
    · rintro rfl
      rw [paramChanged, maskChanged_paceTimer, restartPace_setParams hready.1]
      rfl
    · rintro rfl
      rw [paramChanged, restartPace_running (s := s.setParams (s.params.set v .period)) hready.1]
      rfl
    · rintro rfl rfl
      rw [setBankMask_empty hready.1]
      exact ⟨rfl, rfl⟩
    · rintro rfl hne hrests
      rw [setBankMask_rests hready.1 hle hne hrests]
      exact ⟨rfl, paced_table s _⟩
    · rintro s₁ rfl hne rfl
      refine ⟨fun hcurrent hout => ?_, fun hstays => ?_⟩
      · rw [setBankMask_advances hready.1 hle hne hcurrent hout]
        exact ⟨rfl, rfl⟩
      · rw [setBankMask_stays hready.1 hle hne hstays]
        exact ⟨rfl, rfl⟩
    · rintro rfl
      rfl

end Sys2Proof.Machine
end

section
/-! PROOFS. CLEAR_COUNTERS, ACK_ATTENTION, SET_ATTENTION_MASK, CLEAR and the ATTN_N line (O53). -/

namespace Sys2Proof.Machine

/-- Two bytes spell a set of ten flags, whose bits 10 to 15 are ignored (R181). -/
theorem flagSetArg_pair (hi lo : Byte) : flagSetArg [hi, lo] = (hi ++ lo).setWidth 10 := by
  apply BitVec.eq_of_toNat_eq
  rw [flagSetArg, BitVec.toNat_ofNat, BitVec.toNat_setWidth, BitVec.toNat_append,
    ← Nat.shiftLeft_add_eq_or_of_lt lo.isLt, Nat.shiftLeft_eq]
  simp [numberOf]

/-- ATTN_N is asserted exactly while a flag is set that is enabled (R193). -/
theorem attnAsserted_iff (s : State) :
    s.attnAsserted = true ↔ ∃ i : Nat, i < 10 ∧ s.attn.flags.getLsbD i = true ∧ s.attn.enables.getLsbD i = true := by
  have hbit (i : Nat) : (s.attn.flags &&& s.attn.enables).getLsbD i =
      (s.attn.flags.getLsbD i && s.attn.enables.getLsbD i) := BitVec.getLsbD_and
  rw [State.attnAsserted, Attention.asserted, bne_iff_ne]
  constructor
  · intro hne
    by_contra hnone
    refine hne (BitVec.eq_of_getLsbD_eq fun i hi => ?_)
    rw [hbit, show (0 : BitVec 10).getLsbD i = false from BitVec.getLsbD_zero, ← Bool.not_eq_true, Bool.and_eq_true]
    exact fun h => hnone ⟨i, hi, h⟩
  · rintro ⟨i, -, hflag, henable⟩ hzero
    exact absurd (hbit i) (by simp [hzero, hflag, henable])

/-- CLEAR discards an awaited response, clears every flag and leaves OK as the held response (R194). -/
theorem clearPort_shiftOut (bits : List Bool) (s : State) :
    clearPort (shiftOut bits s) = (s.setAttn { s.attn with flags := 0 }).setPort ⟨some ⟨.ok, [], false⟩,
      s.port.awaiting.map fun a => { a with discarded := true }, s.port.restart, bits⟩ := rfl

/-- A CLEAR that passes its checks (R181, R194). -/
theorem clearTransaction_clears {s : State} (h : s.phase = .running) : clearTransaction [] 0 s = { s with
    attn := { s.attn with flags := 0 }, port := rejectedPort s 0 .ok } := by
  have hphase : ¬ (shiftOut (commandOut ([] : List Byte).length 0) s).phase = .loading := by simp [h]
  rw [clearTransaction, if_pos rfl, if_neg (not_not.2 List.length_nil), if_neg hphase, clearPort_shiftOut]
  rfl

/-- Settles O53: each command's take-up, answered at once; CLEAR passes its checks in the RUNNING part. -/
theorem attentionAndClear : Obligations.AttentionAndClear := by
  refine ⟨fun s hready => ⟨?_, fun hi lo => ⟨?_, ?_⟩⟩, fun s hrun => congrArg _ (clearTransaction_clears hrun),
    attnAsserted_iff⟩
  · exact congrArg Host.Outcome.next (commandTransaction_answered (c := .clearCounters) (t := s.setCounters .zero)
      hready.2 (.inl hready.1) rfl rfl rfl rfl)
  · rw [← flagSetArg_pair]
    exact congrArg Host.Outcome.next (commandTransaction_answered (c := .ackAttention (flagSetArg [hi, lo]))
      (t := s.setAttn { s.attn with flags := s.attn.flags &&& ~~~flagSetArg [hi, lo] })
      hready.2 (.inl hready.1) rfl rfl rfl rfl)
  · rw [← flagSetArg_pair]
    exact congrArg Host.Outcome.next (commandTransaction_answered (c := .setAttentionMask (flagSetArg [hi, lo]))
      (t := s.setAttn { s.attn with enables := flagSetArg [hi, lo] }) hready.2 (.inl hready.1) rfl rfl rfl rfl)

end Sys2Proof.Machine
end

section
/-! PROOFS. One step: the command at the front of the queue, or idling (O1). -/

namespace Sys2Proof.Machine

/-- A step with no command waiting (log 2). -/
theorem step_of_pending_nil {s : State} (h : s.pending = []) : step s = .next s := by
  rw [step, h]

/-- A step with a command waiting: the arm of that command, whatever it answers. -/
theorem step_of_pending_cons {s : State} {c : Instr} {rest : List Instr} (h : s.pending = c :: rest) :
    step s = exec c (s.setPending rest) := by
  rw [step, h]

/-- Settles O1, by the two shapes of the queue; taking the command changes the queue alone. -/
theorem stepRunsFrontCommand : Obligations.StepRunsFrontCommand :=
  ⟨fun _ _ _ hfront => step_of_pending_cons hfront, fun _ hempty => step_of_pending_nil hempty⟩

end Sys2Proof.Machine
end
